-- ==== Sys2Proof/Word.lean ====
section
/-! DEFINITION. The block's data: bytes, byte sequences and one-bit sequence numbers (spec/00_scope.md R11). -/

namespace Sys2Proof

/-- An unsigned 8-bit value. The only arithmetic on it is exclusive-or and equality (R11, R115). -/
abbrev Byte := BitVec 8

/-- A byte sequence; index 0 is the first byte on the wire (R11, R59). -/
abbrev Bytes := List Byte

/-- A one-bit sequence or acknowledgment number: `false` is 0, `true` is 1. The spec uses it as an index
into a pair of parameters and toggles it; it never sits in a bit field (R77, R116 (a)). -/
abbrev SeqBit := Bool

/-- `1 - s` on a one-bit value (R11, R116 (a)). -/
abbrev SeqBit.toggle (s : SeqBit) : SeqBit := !s

end Sys2Proof
end

