-- ==== Sys2Proof/Config.lean ====
section
/-! DEFINITION. What is fixed for one block: the constants the source gives by value, the open parameters of the
model with their well-formedness, the collaborator's answers, and the free values (spec/00_scope.md R7 to R10,
spec/93_implementation_defined.md). -/

namespace Sys2Proof

/-! ## Constants the source fixes by value (R7) -/

/-- The delimiter, `FLAG` (R7). -/
def FLAG : Byte := 0x7E
/-- The escape byte, `ESC` (R7). -/
def ESC : Byte := 0x7D
/-- What an escaped byte is exclusive-ored with, `STUFF_XOR` (R7). -/
def STUFF_XOR : Byte := 0x20
/-- The escaped-delimiter substitute, `ESC_FLAG` = `FLAG xor STUFF_XOR` (R7). -/
def ESC_FLAG : Byte := 0x5E
/-- The escaped-escape substitute, `ESC_ESC` = `ESC xor STUFF_XOR` (R7). -/
def ESC_ESC : Byte := 0x5D
/-- The length of a control frame, `CTRL_LEN` (R7). -/
abbrev CTRL_LEN : Nat := 5
/-- The length of the shortest data frame: four header bytes, one checksum2 byte, one delimiter (R70, R113). -/
abbrev DATA_MIN_LEN : Nat := 6

/-! ## Roles -/

/-- The two values of a role (R12, R26). -/
inductive Role where
  | initiator
  | responder
deriving DecidableEq, Repr, Inhabited

/-- `peer(role)`: the other role (R11). -/
def Role.peer : Role → Role
  | .initiator => .responder
  | .responder => .initiator

/-! ## Parameters (R8, R10) -/

/-- One parameter set: the eleven wire bytes the source names without a value (R8) and the four sizes it leaves
open (R10). `rxCap = none` is an unbounded receive buffer. -/
structure ParamSet where
  /-- `A_INI` -/
  aIni : Byte
  /-- `A_RSP` -/
  aRsp : Byte
  /-- `C_SET` -/
  cSet : Byte
  /-- `C_UA` -/
  cUa : Byte
  /-- `C_DISC` -/
  cDisc : Byte
  /-- `C_I0` -/
  cI0 : Byte
  /-- `C_I1` -/
  cI1 : Byte
  /-- `C_RR0` -/
  cRr0 : Byte
  /-- `C_RR1` -/
  cRr1 : Byte
  /-- `C_REJ0` -/
  cRej0 : Byte
  /-- `C_REJ1` -/
  cRej1 : Byte
  /-- `MSS`, the maximum segment size -/
  mss : Nat
  /-- `RX_CAP`, the capacity of the raw receive buffer -/
  rxCap : Option Nat
  /-- `W_RETRY`, the width of the retry counters and of `CFG.max_retries` -/
  wRetry : Nat
  /-- `W_TIMEOUT`, the width of `CFG.timeout` -/
  wTimeout : Nat
deriving DecidableEq, Repr

/-- The two addresses. -/
def ParamSet.addresses (p : ParamSet) : List Byte := [p.aIni, p.aRsp]

/-- The nine control codes, in the order R9 (b) lists them. -/
def ParamSet.controls (p : ParamSet) : List Byte :=
  [p.cSet, p.cUa, p.cDisc, p.cI0, p.cI1, p.cRr0, p.cRr1, p.cRej0, p.cRej1]

/-- Every byte that can stand in a header: the addresses, the codes and the eighteen checksum1 values
(R9 (c)). -/
def ParamSet.headerBytes (p : ParamSet) : List Byte :=
  p.addresses ++ p.controls ++ p.addresses.flatMap fun a => p.controls.map fun c => a ^^^ c

/-- A run of `n` raw bytes fits the receive buffer (R10, R52). -/
def ParamSet.runFits (p : ParamSet) (n : Nat) : Prop :=
  match p.rxCap with
  | none => True
  | some cap => n ≤ cap

/-- `RX_CAP` is unbounded or holds every frame a conforming peer can send: at least `2*MSS + 7` bytes (R10, R52). -/
abbrev ParamSet.capOk (p : ParamSet) : Prop :=
  ∀ cap ∈ p.rxCap, 2 * p.mss + 7 ≤ cap

/-- A well-formed parameter set: R9 (a), (b), (c), and the size R52 asks of the receive buffer. -/
abbrev ParamSet.Wf (p : ParamSet) : Prop :=
  p.aIni ≠ p.aRsp ∧ p.controls.Nodup ∧ (∀ b ∈ p.headerBytes, b ≠ FLAG) ∧ p.capOk

/-- The parameters a block can be built with. A set that breaks R9 is refused: no block, so no state, has it (R9,
spec/93_implementation_defined.md U10). -/
abbrev Params := { p : ParamSet // p.Wf }

/-- Take a parameter set or refuse it (R9). -/
def ParamSet.check (p : ParamSet) : Option Params :=
  if h : p.Wf then some ⟨p, h⟩ else none

/-- `P-DEFAULT` (R8, spec/93_implementation_defined.md G1) with the default widths of R10 and an unbounded receive
buffer. PRESUMED: the eleven bytes are from general knowledge, not in the source. DESIGN CHOICE: `MSS` is 4, the
least the spec's own programs ask for. No statement rests on any of these values (notes/assumptions/2.md). -/
def ParamSet.pDefault : ParamSet where
  aIni := 0x03
  aRsp := 0x01
  cSet := 0x03
  cUa := 0x07
  cDisc := 0x0B
  cI0 := 0x00
  cI1 := 0x40
  cRr0 := 0x05
  cRr1 := 0x85
  cRej0 := 0x01
  cRej1 := 0x81
  mss := 4
  rxCap := none
  wRetry := 8
  wTimeout := 16

/-- `P-DEFAULT` meets R9, as R9 says. -/
theorem ParamSet.pDefault_wf : ParamSet.pDefault.Wf := by decide

/-- The default parameters as an argument of the model. -/
def Params.pDefault : Params := ⟨ParamSet.pDefault, ParamSet.pDefault_wf⟩

/-! ## The serial channel collaborator's answers (R54, R55, R57) -/

/-- An error value `e` of the collaborator: opaque to the block, handed to the host as received (R54, R187,
spec/93_implementation_defined.md U4). -/
structure ChanErr where
  code : Nat
deriving DecidableEq, Repr, Inhabited

/-- A channel identifier: opaque, passed to `ChanOpen` unchanged (R22). -/
structure ChannelId where
  code : Nat
deriving DecidableEq, Repr, Inhabited

/-- `ChanOpen(id, baud) -> Ok | Error(e)` (R54). -/
inductive OpenAnswer where
  | ok
  | error (e : ChanErr)
deriving DecidableEq, Repr, Inhabited

/-- `ChanRead() -> Byte(b) | TimeoutSignal | Error(e)` (R55). -/
inductive ReadAnswer where
  | byte (b : Byte)
  | timeoutSignal
  | error (e : ChanErr)
deriving DecidableEq, Repr, Inhabited

/-- `ChanWrite(bytes) -> Count(n) | Error(e)` (R57). -/
inductive WriteAnswer where
  | count (n : Nat)
  | error (e : ChanErr)
deriving DecidableEq, Repr, Inhabited

/-! ## Free values

Nothing in Lean can evaluate these. Each is applied to the counter `State.freeCount`, which every collaborator
call advances. -/

/-- What the collaborator answers to a `ChanOpen` when the state lists no answer: the environment's choice (R54;
notes/assumptions/6.md). -/
opaque Config.freeOpenAnswer : Nat → OpenAnswer

/-- What the collaborator answers to a `ChanWrite` when the state lists no answer: the environment's choice (R57;
notes/assumptions/6.md). -/
opaque Config.freeWriteAnswer : Nat → WriteAnswer

/-- The unspecified `e` that a short count is turned into (R57; spec/92_eei_decisions.md D19;
notes/assumptions/7.md). -/
opaque Config.freeShortWriteError : Nat → ChanErr

end Sys2Proof
end

