-- ==== Sys2Proof/Syntax.lean ====
section
/-! DEFINITION. The operations of the block, one constructor per row of spec/opcode_table.json, and the inputs that
start them (spec/00_scope.md R11, spec/30_encoding.md R83, R86). -/

namespace Sys2Proof

/-- The status of a completed command. The numbers are `Status.code` (R182). -/
inductive Status where
  | ok
  | connectionTimeout
  | transferFailed
  | frameCorruptChecksum1
  | frameCorruptChecksum2
  | channelError (e : ChanErr)
  | invalidRole
  | dup
deriving DecidableEq, Repr, Inhabited

/-- The numeric status codes (R182; spec/92_eei_decisions.md D6). -/
def Status.code : Status → BitVec 3
  | .ok => 0
  | .connectionTimeout => 1
  | .transferFailed => 2
  | .frameCorruptChecksum1 => 3
  | .frameCorruptChecksum2 => 4
  | .channelError _ => 5
  | .invalidRole => 6
  | .dup => 7

/-- The statuses the fatal path carries (R182 column "Fatal", R189). -/
def Status.fatal : Status → Bool
  | .connectionTimeout | .transferFailed | .channelError _ => true
  | .ok | .frameCorruptChecksum1 | .frameCorruptChecksum2 | .invalidRole | .dup => false

/-- The result part of `Complete(status, result)`: nothing, the byte count of a SEND, or the packet of a RECEIVE
(R181, R182 column "Information recorded"). -/
inductive CmdResult where
  | none
  | bytesWritten (n : Nat)
  | packet (p : Bytes)
deriving DecidableEq, Repr, Inhabited

/-- The result of `DEC_DATA` (R110). -/
inductive Decoded where
  | data (a c : Byte) (p : Bytes)
  | checksum1Mismatch
  | checksum2Mismatch (a c : Byte)
deriving DecidableEq, Repr, Inhabited

/-- The row formats of spec/opcode_table.json (R86). -/
inductive Format where
  | ctrl
  | data
  | cmd
  | op
deriving DecidableEq, Repr

/-- The operations of the block, in the order of spec/opcode_table.json. A wire frame carries the role of the
station that sent it where both roles send that frame (R75, R76), and a data frame its payload; an internal
operation carries the arguments its rule names. -/
inductive Instr where
  -- wire frames (formats CTRL and DATA)
  | set
  | ua (sender : Role)
  | disc (sender : Role)
  | i0 (sender : Role) (payload : Bytes)
  | i1 (sender : Role) (payload : Bytes)
  | rr0 (sender : Role)
  | rr1 (sender : Role)
  | rej0 (sender : Role)
  | rej1 (sender : Role)
  -- host commands (format CMD)
  | openCmd
  | sendCmd
  | receiveCmd
  | closeCmd
  -- codec
  | bcc1 (a c : Byte)
  | bcc2 (p : Bytes)
  | stuff (bs : Bytes)
  | stuffBcc2 (p : Bytes)
  | destuff (r : Bytes)
  | encCtrl (a c : Byte)
  | encData (a : Byte) (sb : SeqBit) (p : Bytes)
  | decData (raw : Bytes)
  | template (a c : Byte)
  | cscan (b : Byte) (ts : List Bytes)
  | dscan (b : Byte)
  | scannerReset
  -- handshake steps
  | oiWaitUaRx (b : Byte)
  | oiWaitUaTimeout
  | orWaitSetRx (b : Byte)
  | ciWaitDiscRx (b : Byte)
  | ciWaitDiscTimeout
  | crWaitDiscRx (b : Byte)
  | crWaitUaRx (b : Byte)
  | handshakeRxerr (e : ChanErr)
  -- ARQ steps
  | txWaitAckRxRr (b : Byte)
  | txWaitAckRxRej
  | txWaitAckTimeout
  | rxFrameRx (b : Byte)
  | rxFrameC2
  | rxFrameAccept (p : Bytes)
  | rxFrameDup
  | rxFrameC1
  | arqRxerr (e : ChanErr)
  -- timer
  | timerArm
  | timerCancel
  | timeout
  | retryStep
  -- completion
  | complete (st : Status) (res : CmdResult)
  | fatal (st : Status)
  -- collaborator calls and resets
  | chanOpen
  | chanRead
  | chanWrite (bs : Bytes)
  | chanRelease
  | sessionReset
  | hwReset
deriving DecidableEq, Repr

/-- The format of an operation's row (R86). -/
def Instr.format : Instr → Format
  | .set | .ua _ | .disc _ | .rr0 _ | .rr1 _ | .rej0 _ | .rej1 _ => .ctrl
  | .i0 _ _ | .i1 _ _ => .data
  | .openCmd | .sendCmd | .receiveCmd | .closeCmd => .cmd
  | .bcc1 _ _ | .bcc2 _ | .stuff _ | .stuffBcc2 _ | .destuff _ | .encCtrl _ _ | .encData _ _ _ | .decData _
  | .template _ _ | .cscan _ _ | .dscan _ | .scannerReset => .op
  | .oiWaitUaRx _ | .oiWaitUaTimeout | .orWaitSetRx _ | .ciWaitDiscRx _ | .ciWaitDiscTimeout | .crWaitDiscRx _
  | .crWaitUaRx _ | .handshakeRxerr _ => .op
  | .txWaitAckRxRr _ | .txWaitAckRxRej | .txWaitAckTimeout | .rxFrameRx _ | .rxFrameC2 | .rxFrameAccept _
  | .rxFrameDup | .rxFrameC1 | .arqRxerr _ => .op
  | .timerArm | .timerCancel | .timeout | .retryStep | .complete _ _ | .fatal _ => .op
  | .chanOpen | .chanRead | .chanWrite _ | .chanRelease | .sessionReset | .hwReset => .op

/-- A host write of one field of `CFG` (R20, R25). A number wider than its field cannot stand on the field's port;
the write keeps its low bits (notes/assumptions/9.md). -/
inductive CfgWrite where
  | role (v : BitVec 2)
  | channelId (v : ChannelId)
  | baud (v : BitVec 32)
  | maxRetries (n : Nat)
  | timeout (n : Nat)
deriving DecidableEq, Repr

/-- One input from outside the block: the events of R11 (a host command, `RX(b)`, `TIMEOUT`, `RXERR(e)`), the host's
register writes (R25, R34), the reset input (R39), and a whole frame delivered by the channel, which stands for the
`RX` events of its bytes with nothing between them (spec/95_test_vectors.md H2; notes/assumptions/3.md). -/
inductive Input where
  | cmd (code : BitVec 2)
  | frame (bytes : Bytes)
  | rx (b : Byte)
  | timeout
  | rxerr (e : ChanErr)
  | writeCfg (w : CfgWrite)
  | writeTxpay (bs : Bytes)
  | hwReset
deriving DecidableEq, Repr

end Sys2Proof
end

