-- ==== Sys2Proof/Machine/Operands.lean ====
section
/-! DEFINITION. Operand forms: how a role selects an address and how a one-bit number selects a control code
(spec/00_scope.md R11, spec/30_encoding.md R75, R77). Nothing here is a mask or a bit position: R77 forbids both. -/

namespace Sys2Proof

/-- `tag(role)`: the address of every frame a station of that role sends (R11, R75). -/
def tag (p : ParamSet) : Role → Byte
  | .initiator => p.aIni
  | .responder => p.aRsp

/-- Which role an address byte stands for, by equality (R75, R77). -/
def roleOfTag (p : ParamSet) (a : Byte) : Option Role :=
  if a = p.aIni then some .initiator else if a = p.aRsp then some .responder else none

/-- `C_I(s)` (R11, R77). -/
def cI (p : ParamSet) (s : SeqBit) : Byte := if s then p.cI1 else p.cI0

/-- `C_RR(r)` (R11, R77). -/
def cRr (p : ParamSet) (r : SeqBit) : Byte := if r then p.cRr1 else p.cRr0

/-- `C_REJ(r)` (R11, R77). -/
def cRej (p : ParamSet) (r : SeqBit) : Byte := if r then p.cRej1 else p.cRej0

/-- The sequence bit of a received control byte, by equality: bit 0 for `C_I0`, bit 1 for `C_I1`, none for every
other byte (R77). -/
def seqOfCode (p : ParamSet) (c : Byte) : Option SeqBit :=
  if c = p.cI0 then some false else if c = p.cI1 then some true else none

/-- The legal values of `CFG.role`: 0 is Initiator, 1 is Responder, 2 and 3 are invalid (R21). -/
def roleOfCode (v : BitVec 2) : Option Role :=
  if v = 0 then some .initiator else if v = 1 then some .responder else none

/-- A run as the data scanner hands it on: at least six bytes, a delimiter at both ends and nowhere else (R110,
R113). -/
def isRun (raw : Bytes) : Bool :=
  decide (DATA_MIN_LEN ≤ raw.length) && raw.head? == some FLAG && raw.getLast? == some FLAG &&
    !(raw.tail.dropLast.contains FLAG)

/-- A number as a field of `w` bits holds it. -/
def fitWidth (w n : Nat) : Nat := n % 2 ^ w

end Sys2Proof
end

