-- ==== Sys2Proof/Machine/Codec.lean ====
section
/-! DEFINITION. The Frame Codec: pure functions on bytes (spec/40_codec.md R100 to R111, R115). -/

namespace Sys2Proof

/-- Checksum1 (R100). -/
def bcc1 (a c : Byte) : Byte := a ^^^ c

/-- Checksum2: the running exclusive-or of the unstuffed payload, zero when it is empty (R101). -/
def bcc2 (p : Bytes) : Byte := p.foldl (fun acc b => acc ^^^ b) 0

/-- The bytes that are replaced by a pair: the delimiter and the escape byte (R102). -/
def needsEscape (b : Byte) : Bool := b == FLAG || b == ESC

/-- Byte stuffing (R102). -/
def stuff : Bytes → Bytes
  | [] => []
  | b :: bs => if needsEscape b then ESC :: (b ^^^ STUFF_XOR) :: stuff bs else b :: stuff bs

/-- The stuffed checksum2 of a payload, the trailer of its data frame (R104). -/
def stuffedBcc2 (p : Bytes) : Bytes := stuff [bcc2 p]

/-- Byte destuffing; `none` is `Malformed`, a dangling escape (R105). -/
def destuff : Bytes → Option Bytes
  | [] => some []
  | [b] => if b = ESC then none else some [b]
  | b :: x :: r =>
    if b = ESC then (destuff r).map ((x ^^^ STUFF_XOR) :: ·) else (destuff (x :: r)).map (b :: ·)

/-- Encode a control frame (R106, layout of R72). -/
def encCtrl (a c : Byte) : Bytes := [FLAG, a, c, bcc1 a c, FLAG]

/-- The four header bytes of a data frame, never stuffed (R71, R73). -/
def dataHeader (p : ParamSet) (a : Byte) (s : SeqBit) : Bytes := [FLAG, a, cI p s, bcc1 a (cI p s)]

/-- Encode a data frame (R107, layout of R73). -/
def encData (p : ParamSet) (a : Byte) (s : SeqBit) (pl : Bytes) : Bytes :=
  dataHeader p a s ++ stuff pl ++ stuffedBcc2 pl ++ [FLAG]

/-- Split a destuffed region into payload and checksum2 and compare (R110). -/
def checkRegion (a c : Byte) (d : Bytes) : Decoded :=
  match d.getLast? with
  | none => .checksum2Mismatch a c
  | some b2 => if bcc2 d.dropLast = b2 then .data a c d.dropLast else .checksum2Mismatch a c

/-- Decode a delimited run: checksum1 first, then destuffing, then checksum2 (R109, R110). The region is what
stands between the four header bytes and the closing delimiter. A text shorter than a header is no run; R110 gives it
no result and no caller passes one. -/
def decData : Bytes → Decoded
  | _ :: a :: c :: b1 :: rest =>
    if b1 = bcc1 a c then
      match destuff rest.dropLast with
      | none => .checksum2Mismatch a c
      | some d => checkRegion a c d
    else .checksum1Mismatch
  | _ => .checksum1Mismatch

/-- The template a control scanner compares against (R111). -/
def template (a c : Byte) : Bytes := encCtrl a c

end Sys2Proof
end

