-- ==== Sys2Proof/Machine/State.lean ====
section
/-! DEFINITION. The state of the block, as plain data, and its value after hardware reset (spec/10_state.md R20 to R41,
spec/20_memory.md R50). -/

namespace Sys2Proof.Machine

open Sys2Proof

/-- The phase register `PH` (R30). -/
inductive Phase where
  | closed
  | idle
  | oiWaitUa
  | orWaitSet
  | txWaitAck
  | rxFrame
  | ciWaitDisc
  | crWaitDisc
  | crWaitUa
deriving DecidableEq, Repr

/-- The scanner state `SC` (R31). -/
inductive Scan where
  | waitDelimiter
  | reading (i : Nat)
  | overflow
  | matched
deriving DecidableEq, Repr

/-- `SessionConfig` (R20 to R25). DESIGN CHOICE: the width of `baud` and the type of `channelId`, which
spec/93_implementation_defined.md U20 leaves open, are fixed here at the default of R22 and D7, 32 bits, and at an
uninterpreted code; the block only passes both on, and no statement rests on either (notes/assumptions/2.md). -/
structure Cfg where
  /-- `CFG.role`, 2 bits (R21) -/
  role : BitVec 2
  /-- `CFG.channel_id`, opaque (R22) -/
  channelId : ChannelId
  /-- `CFG.baud`, 32 bits by default (R22) -/
  baud : BitVec 32
  /-- `CFG.max_retries`, unsigned, `W_RETRY` bits (R23) -/
  maxRetries : Nat
  /-- `CFG.timeout`, unsigned, `W_TIMEOUT` bits; the environment's timer reads it, no rule of the block does (R24) -/
  timeout : Nat
deriving DecidableEq, Repr

/-- The value an internal operation hands back to the operation that called it. The spec writes these as function
results (`return NoMatch`, `-> Count(n)`); no register of the block holds them, so the field is the model's own
(notes/assumptions/5.md). -/
inductive OpResult where
  | none
  | byte (b : Byte)
  | bytes (bs : Bytes)
  | malformed
  | decoded (d : Decoded)
  | noMatch
  | isMatch (t : Bytes)
  | noFrame
  | isFrame (raw : Bytes)
  | opened (a : OpenAnswer)
  | read (a : ReadAnswer)
  | written (a : WriteAnswer)
deriving DecidableEq, Repr

/-- Everything the block holds, and below it the model's own view of what stands around the block. -/
structure State where
  /-- the parameters, an argument of the model; no step writes it (R8, R10) -/
  params : Params
  /-- `CFG.*` (R20) -/
  cfg : Cfg
  /-- `ROLE` (R26) -/
  role : Role
  /-- `NS`, the send sequence bit (R27) -/
  ns : SeqBit
  /-- `NR`, the expected-receive sequence bit (R28) -/
  nr : SeqBit
  /-- `RETRY`, the timer-expiry counter (R29) -/
  retry : Nat
  /-- `REJCNT`, the matched-REJ counter (R29) -/
  rejcnt : Nat
  /-- `TARMED`, the timer-armed flag (R29, R170) -/
  tarmed : Bool
  /-- `PH`, the phase register (R30) -/
  ph : Phase
  /-- `SC`, the scanner state (R31) -/
  sc : Scan
  /-- `RXBUF` (R31, R52) -/
  rxbuf : Bytes
  /-- `TXBUF`, the frame the running operation may write again (R32) -/
  txbuf : Bytes
  /-- `CHAN_HELD` (R33) -/
  chanHeld : Bool
  /-- `TXPAY`, the payload argument of SEND (R34) -/
  txpay : Bytes
  /-- `RXPKT`, the packet RECEIVE delivered last (R34) -/
  rxpkt : Bytes
  /-- `STATUS`, the status of the last completed command (R34, R182) -/
  status : Status
  /-- `RESULT_LEN` (R34) -/
  resultLen : Nat
  /-- the model's own: the value the last internal operation handed back -/
  opResult : OpResult
  /-- the model's own: how many commands have completed (R181: "Each command completes exactly once, or never") -/
  done : Nat
  /-- the TX stream as the `ChanWrite` calls that put bytes into it, oldest first (R50 (b), R57, R63 item 2) -/
  txCalls : List Bytes
  /-- the model's own: the argument pairs of the `ChanOpen` calls, oldest first (R22, R54) -/
  openCalls : List (ChannelId × BitVec 32)
  /-- the environment: the inputs still to come, the next one first (R11, R56) -/
  inbox : List Input
  /-- the environment: its answers to the `ChanOpen` calls to come (R54) -/
  openAnswers : List OpenAnswer
  /-- the environment: its answers to the `ChanWrite` calls to come (R57) -/
  writeAnswers : List WriteAnswer
  /-- the model's own: how many collaborator calls there have been; what a free value is applied to -/
  freeCount : Nat
deriving DecidableEq, Repr

/-- The parameter set of a state's block. -/
abbrev State.p (s : State) : ParamSet := s.params.val

/-- `MAX_RETRIES` (R23). -/
abbrev State.maxRetries (s : State) : Nat := s.cfg.maxRetries

/-- The TX stream: the bytes handed to `ChanWrite`, in order (R50 (b)). -/
def State.txStream (s : State) : Bytes := s.txCalls.flatten

/-- `CFG` after hardware reset: unspecified (R21 to R24, R39). DESIGN CHOICE, unsafe: every field 0
(notes/assumptions/1.md). -/
def Cfg.reset : Cfg where
  role := 0
  channelId := ⟨0⟩
  baud := 0
  maxRetries := 0
  timeout := 0

/-- The state after hardware reset (R39, R210). `PH`, `TARMED`, `CHAN_HELD`, `SC`, `RXBUF`, `TXBUF`, `NS`, `NR`, `RETRY`
and `REJCNT` are as R39 lists them. `ROLE`, `CFG`, `TXPAY`, `RXPKT`, `RESULT_LEN` and `STATUS` are unspecified
there: DESIGN CHOICE, unsafe, each is the value numbered 0 or empty (notes/assumptions/1.md). The parameters are
`P-DEFAULT` (notes/assumptions/2.md); no input is listed. -/
def State.reset : State where
  params := Params.pDefault
  cfg := Cfg.reset
  role := .initiator
  ns := false
  nr := false
  retry := 0
  rejcnt := 0
  tarmed := false
  ph := .closed
  sc := .waitDelimiter
  rxbuf := []
  txbuf := []
  chanHeld := false
  txpay := []
  rxpkt := []
  status := .ok
  resultLen := 0
  opResult := .none
  done := 0
  txCalls := []
  openCalls := []
  inbox := []
  openAnswers := []
  writeAnswers := []
  freeCount := 0

/-- Faults that stop the machine. There are none: every error of the spec is the completion status of a host
command, after which the block goes on (R180, R189 to R191), so the type has no constructor. -/
inductive Fault where
deriving DecidableEq, Repr

/-- Why there is no next state. No refusal writes anything. -/
inductive Refusal where
  /-- Raised by an arm of `exec` whose operation has no meaning yet. Safe. -/
  | notModelled (mnemonic : String)
  /-- Raised by `step` when no input is listed: no step is enabled but further input (R11, R224). The block waits; this
  is neither an error nor an end. Safe. -/
  | awaitingInput
  /-- Raised by a step of a phase, or by the expiry, asked for where the spec does not enable it: "in phase P on
  event E" outside phase P, `TIMEOUT` with `TARMED = 0` (R11, R173), a `ChanRead` outside a waiting phase (R55).
  `step` never asks for one. Safe. -/
  | eventNotEnabled
  /-- Raised by `DEC_DATA` on a text that is not a delimited run: R110 gives it no result. `step` never asks for one.
  Safe. -/
  | operandIllFormed
  /-- Raised by `CHAN_READ` when no input listed is an answer of the channel: the read blocks until one comes (R55;
  spec/93_implementation_defined.md U11: stuck). `step` never asks for one. Safe. -/
  | readBlocks
deriving DecidableEq, Repr

end Sys2Proof.Machine
end

