-- ==== Sys2Proof/Machine/Flags.lean ====
section
/-! DEFINITION. The one-bit state of the block: `TARMED`, `CHAN_HELD`, `NS`, `NR`. There are no other flags, and no
operation sets one as a side effect beyond what its rule lists (spec/10_state.md R35). -/

namespace Sys2Proof.Machine

open Sys2Proof

/-- `TimerArm()` (R171). The environment's deadline is not state of the block (R38 (b), R170). -/
def timerArm (s : State) : State := { s with tarmed := true }

/-- `TimerCancel()` (R172). -/
def timerCancel (s : State) : State := { s with tarmed := false }

/-- The channel is held from a successful `ChanOpen` on (R33, R54). -/
def chanHold (s : State) : State := { s with chanHeld := true }

/-- `ChanRelease()` (R58). -/
def chanRelease (s : State) : State := { s with chanHeld := false }

/-- `NS <- 1 - NS` (R27, R116 (a)). -/
def toggleNs (s : State) : State := { s with ns := s.ns.toggle }

/-- `NR <- 1 - NR` (R28, R116 (a)). -/
def toggleNr (s : State) : State := { s with nr := s.nr.toggle }

end Sys2Proof.Machine
end

