-- ==== Sys2Proof/Machine/Ops.lean ====
section
/-! DEFINITION. The operations every family is written over: buffers, addresses, the scanners, the collaborator calls,
completion, the fatal path, the retry step, the resets. An error completion is this block's exception: `fatal` is
its entry, and there is no return from it (spec/60_exceptions.md R189, R190). -/

namespace Sys2Proof.Machine

open Sys2Proof

/-! ## Buffers (R51) -/

/-- `buf[i]` for `i < |buf|` (R51). -/
def bufRead (buf : Bytes) (i : Nat) : Option Byte := buf[i]?

/-- `buf[i] <- v` for `i < |buf|` (R51). -/
def bufWrite (buf : Bytes) (i : Nat) (v : Byte) : Bytes := buf.set i v

/-- `buf <- buf ++ [v]` (R51). -/
def bufAppend (buf : Bytes) (v : Byte) : Bytes := buf ++ [v]

/-! ## Addresses of a session (R75) -/

/-- `me = tag(ROLE)`: the address of every frame this station sends. -/
def me (s : State) : Byte := tag s.p s.role

/-- `pa = tag(peer(ROLE))`: the address of every frame this station expects. -/
def pa (s : State) : Byte := tag s.p s.role.peer

/-! ## Scanners (R112, R113, R114) -/

/-- Write `SC` and `RXBUF`. -/
def setScan (sc : Scan) (buf : Bytes) (s : State) : State := { s with sc := sc, rxbuf := buf }

/-- Scanner reset (R114). -/
def scannerReset (s : State) : State := setScan .waitDelimiter [] s

/-- What one step of the control scanner leaves in `SC` and `RXBUF` (R112). R112 has no case for `Overflow` and
`Matched`, which no control-scanner phase ever sees (R31, R41 item 4); there the byte is ignored
(notes/assumptions/10.md). -/
def cscanNext (b : Byte) (ts : List Bytes) (sc : Scan) (buf : Bytes) : Scan × Bytes :=
  match sc with
  | .waitDelimiter => if b = FLAG then (.reading 1, [b]) else (.waitDelimiter, buf)
  | .reading i =>
    if i + 1 < CTRL_LEN then (.reading (i + 1), bufAppend buf b)
    else if bufAppend buf b ∈ ts then (.matched, bufAppend buf b)
    else (.waitDelimiter, [])
  | .overflow => (.overflow, buf)
  | .matched => (.matched, buf)

/-- What one step of the control scanner answers: the matched template, or `none` for `NoMatch` (R112). -/
def cscanMatch (b : Byte) (ts : List Bytes) (sc : Scan) (buf : Bytes) : Option Bytes :=
  match sc with
  | .reading i =>
    if i + 1 < CTRL_LEN then none else if bufAppend buf b ∈ ts then some (bufAppend buf b) else none
  | .waitDelimiter | .overflow | .matched => none

/-- The state after `CSCAN(b, T)`. -/
def afterCscan (b : Byte) (ts : List Bytes) (s : State) : State :=
  setScan (cscanNext b ts s.sc s.rxbuf).1 (cscanNext b ts s.sc s.rxbuf).2 s

/-- The answer of `CSCAN(b, T)` in a state. -/
def cscanResult (b : Byte) (ts : List Bytes) (s : State) : Option Bytes := cscanMatch b ts s.sc s.rxbuf

/-- There is no room in the receive buffer for another byte and a closing delimiter after `i` bytes (R113). An
unbounded buffer always has room. -/
def noRoom (p : ParamSet) (i : Nat) : Bool := p.rxCap.any fun cap => decide (cap ≤ i + 1)

/-- What one step of the data scanner leaves in `SC` and `RXBUF` (R113). R113 has no case for `Matched`, which
`RX_FRAME` never sees (R31); there the byte is ignored (notes/assumptions/10.md). -/
def dscanNext (p : ParamSet) (b : Byte) (sc : Scan) (buf : Bytes) : Scan × Bytes :=
  match sc with
  | .waitDelimiter => if b = FLAG then (.reading 1, [b]) else (.waitDelimiter, buf)
  | .reading i =>
    if b = FLAG then (.waitDelimiter, [])
    else if noRoom p i then (.overflow, [])
    else (.reading (i + 1), bufAppend buf b)
  | .overflow => if b = FLAG then (.waitDelimiter, buf) else (.overflow, buf)
  | .matched => (.matched, buf)

/-- What one step of the data scanner answers: a delimited run, or `none` for `NoFrame` (R113). -/
def dscanFrame (b : Byte) (sc : Scan) (buf : Bytes) : Option Bytes :=
  match sc with
  | .reading i => if b = FLAG then (if i + 1 < DATA_MIN_LEN then none else some (bufAppend buf b)) else none
  | .waitDelimiter | .overflow | .matched => none

/-- The state after `DSCAN(b)`. -/
def afterDscan (b : Byte) (s : State) : State :=
  setScan (dscanNext s.p b s.sc s.rxbuf).1 (dscanNext s.p b s.sc s.rxbuf).2 s

/-- The answer of `DSCAN(b)` in a state. -/
def dscanResult (b : Byte) (s : State) : Option Bytes := dscanFrame b s.sc s.rxbuf

/-! ## Completion and the fatal path (R181, R189) -/

/-- `Complete(status, result)` (R181): `STATUS`, and `RESULT_LEN` and `RXPKT` where the result carries them. -/
def complete (st : Status) (res : CmdResult) (s : State) : State :=
  { s with
    status := st
    resultLen := match res with
      | .none => s.resultLen
      | .bytesWritten n => n
      | .packet p => p.length
    rxpkt := match res with
      | .packet p => p
      | .none | .bytesWritten _ => s.rxpkt
    done := s.done + 1 }

/-- `PH <- phase` (R11, R30). -/
def goto (ph : Phase) (s : State) : State := { s with ph := ph }

/-- `raise Fatal(status)`: taking a fatal error (R189). Nothing is saved; the timer is cancelled, the channel
released, control goes to `CLOSED`. The discarded session elements keep their last values, which R36 allows
(notes/assumptions/8.md). -/
def fatal (st : Status) (s : State) : State :=
  complete st .none (goto .closed (chanRelease (timerCancel s)))

/-! ## Collaborator calls (R54, R57) -/

/-- The environment's answer to the next `ChanOpen`: the next one listed, or a free value (notes/assumptions/6.md). -/
def openAnswer (s : State) : OpenAnswer := s.openAnswers.headD (Config.freeOpenAnswer s.freeCount)

/-- `ChanOpen(CFG.channel_id, CFG.baud)` is called and answered (R54, R22). -/
def openCalled (s : State) : State :=
  { s with
    openCalls := s.openCalls ++ [(s.cfg.channelId, s.cfg.baud)]
    openAnswers := s.openAnswers.tail
    freeCount := s.freeCount + 1 }

/-- The environment's answer to the next `ChanWrite`: the next one listed, or a free value. -/
def writeAnswer (s : State) : WriteAnswer := s.writeAnswers.headD (Config.freeWriteAnswer s.freeCount)

/-- The error a `ChanWrite` of these bytes ends with, if any: the collaborator's own, or an unspecified one for a
short count (R57). -/
def writeError (bs : Bytes) (s : State) : Option ChanErr :=
  match writeAnswer s with
  | .error e => some e
  | .count n => if bs.length ≤ n then none else some (Config.freeShortWriteError s.freeCount)

/-- A `ChanWrite` has been called and answered; no byte has entered the TX stream. -/
def writeCalled (s : State) : State :=
  { s with writeAnswers := s.writeAnswers.tail, freeCount := s.freeCount + 1 }

/-- A `ChanWrite` of these bytes has succeeded: they are in the TX stream, first byte first (R57). -/
def sent (bs : Bytes) (s : State) : State := { writeCalled s with txCalls := s.txCalls ++ [bs] }

/-- `ChanWrite!(bs)` and what follows it: the rest of the step when the write succeeds, else the fatal path with
`ChannelError(e)` and nothing further (spec/41_handshake.md, R57, R187). -/
def writeThen (bs : Bytes) (k : State → State) (s : State) : State :=
  match writeError bs s with
  | none => k (sent bs s)
  | some e => fatal (.channelError e) (writeCalled s)

/-! ## The retry step (R175) -/

/-- The order of the handshake phases: scanner reset, arm, then write the same frame again (R134, R138). -/
def armThenWrite (s : State) : State :=
  writeThen s.txbuf id (timerArm (scannerReset s))

/-- The order of SEND: write the same frame again, then arm, then scanner reset (R154, R155). -/
def writeThenArm (s : State) : State :=
  writeThen s.txbuf (fun t => scannerReset (timerArm t)) s

/-- The shared retry step on an expiry: disarm, count, compare, then fail or resend (R175). -/
def retryWith (err : Status) (resend : State → State) (s : State) : State :=
  let t := { s with tarmed := false, retry := s.retry + 1 }
  if t.maxRetries ≤ t.retry then fatal err t else resend t

/-- `RETRY <- 0; REJCNT <- 0`, at the start of OPEN, CLOSE and SEND (R29). -/
def clearCounters (s : State) : State := { s with retry := 0, rejcnt := 0 }

/-! ## Resets (R39, R40) -/

/-- Session reset (R40). -/
def sessionReset (s : State) : State :=
  { s with
    role := if s.cfg.role = 0 then .initiator else .responder
    ns := false
    nr := false
    retry := 0
    rejcnt := 0
    tarmed := false
    sc := .waitDelimiter
    rxbuf := []
    txbuf := [] }

/-- Hardware reset (R39, R210): every element of the block at its reset value. The parameters are not state, and what
stands around the block (the inputs to come, the collaborator's answers, the bytes already written) is not reset
with it. The elements R39 leaves unspecified take the values the model names for reset (notes/assumptions/1.md). -/
def hwReset (s : State) : State :=
  { State.reset with
    params := s.params
    opResult := s.opResult
    done := s.done
    txCalls := s.txCalls
    openCalls := s.openCalls
    inbox := s.inbox
    openAnswers := s.openAnswers
    writeAnswers := s.writeAnswers
    freeCount := s.freeCount }

/-! ## Host register writes (R25, R34) -/

/-- The value of `CFG` after a host write of one field. -/
def Cfg.write (p : ParamSet) (w : CfgWrite) (c : Cfg) : Cfg :=
  match w with
  | .role v => { c with role := v }
  | .channelId v => { c with channelId := v }
  | .baud v => { c with baud := v }
  | .maxRetries n => { c with maxRetries := fitWidth p.wRetry n }
  | .timeout n => { c with timeout := fitWidth p.wTimeout n }

/-- A host write of a `CFG` field: refused, with no state change, unless `PH = CLOSED` (R25). -/
def hostWriteCfg (w : CfgWrite) (s : State) : State :=
  if s.ph = .closed then { s with cfg := s.cfg.write s.p w } else s

/-- A host write of `TXPAY` (R34). -/
def hostWriteTxpay (bs : Bytes) (s : State) : State := { s with txpay := bs }

/-! ## Outcomes -/

/-- The outcome of a meaning that always completes. -/
def completes (s : State) : Host.Outcome State Fault Refusal := .next s

/-- A step of a phase on an event: it is enabled, or it is not asked for (R11). -/
def whenEnabled (c : Bool) (s : State) : Host.Outcome State Fault Refusal :=
  if c then .next s else .refused .eventNotEnabled

/-- Hand a value back to the calling operation. -/
def giveBack (r : OpResult) (s : State) : State := { s with opResult := r }

end Sys2Proof.Machine
end

