-- ==== Sys2Proof/Machine/CodecOps.lean ====
section
/-! DEFINITION. Meanings of the Frame Codec's operations (spec/40_codec.md R100 to R114). The pure ones write no state
element and hand their result back; the scanner steps write `SC` and `RXBUF` only. -/

namespace Sys2Proof.Machine

open Sys2Proof

/-- `BCC1(a, c)` (R100). -/
def execBcc1 (a c : Byte) (s : State) : Host.Outcome State Fault Refusal :=
  .next (giveBack (.byte (bcc1 a c)) s)

/-- `BCC2(P)` (R101). -/
def execBcc2 (p : Bytes) (s : State) : Host.Outcome State Fault Refusal :=
  .next (giveBack (.byte (bcc2 p)) s)

/-- `STUFF(B)` (R102). -/
def execStuff (bs : Bytes) (s : State) : Host.Outcome State Fault Refusal :=
  .next (giveBack (.bytes (stuff bs)) s)

/-- `STUFF([BCC2(P)])`, the stuffed checksum2 of a payload (R104). -/
def execStuffBcc2 (p : Bytes) (s : State) : Host.Outcome State Fault Refusal :=
  .next (giveBack (.bytes (stuffedBcc2 p)) s)

/-- `DESTUFF(R)` (R105). -/
def execDestuff (r : Bytes) (s : State) : Host.Outcome State Fault Refusal :=
  .next (giveBack (match destuff r with
    | none => .malformed
    | some d => .bytes d) s)

/-- `ENC_CTRL(a, c)` (R106). -/
def execEncCtrl (a c : Byte) (s : State) : Host.Outcome State Fault Refusal :=
  .next (giveBack (.bytes (encCtrl a c)) s)

/-- `ENC_DATA(a, s, P)` (R107). -/
def execEncData (a : Byte) (sb : SeqBit) (p : Bytes) (s : State) : Host.Outcome State Fault Refusal :=
  .next (giveBack (.bytes (encData s.p a sb p)) s)

/-- `DEC_DATA(raw)` (R110): on a delimited run; R110 gives no result for any other text. -/
def execDecData (raw : Bytes) (s : State) : Host.Outcome State Fault Refusal :=
  if isRun raw then .next (giveBack (.decoded (decData raw)) s) else .refused .operandIllFormed

/-- `TEMPLATE(a, c)` (R111). -/
def execTemplate (a c : Byte) (s : State) : Host.Outcome State Fault Refusal :=
  .next (giveBack (.bytes (template a c)) s)

/-- `CSCAN(b, T)` (R112). -/
def execCscan (b : Byte) (ts : List Bytes) (s : State) : Host.Outcome State Fault Refusal :=
  .next (giveBack (match cscanResult b ts s with
    | none => .noMatch
    | some t => .isMatch t) (afterCscan b ts s))

/-- `DSCAN(b)` (R113). -/
def execDscan (b : Byte) (s : State) : Host.Outcome State Fault Refusal :=
  .next (giveBack (match dscanResult b s with
    | none => .noFrame
    | some raw => .isFrame raw) (afterDscan b s))

/-- Scanner reset (R114). -/
def execScannerReset (s : State) : Host.Outcome State Fault Refusal :=
  .next (scannerReset s)

end Sys2Proof.Machine
end

