-- ==== Sys2Proof/Machine/Completion.lean ====
section
/-! DEFINITION. Meanings of completion and of the fatal path (spec/60_exceptions.md R181, R189). -/

namespace Sys2Proof.Machine

open Sys2Proof

/-- `Complete(status, result)` (R181). -/
def execComplete (st : Status) (res : CmdResult) (s : State) : Host.Outcome State Fault Refusal :=
  .next (complete st res s)

/-- `raise Fatal(status)` (R189). -/
def execFatal (st : Status) (s : State) : Host.Outcome State Fault Refusal := .next (fatal st s)

end Sys2Proof.Machine
end

