-- ==== Sys2Proof/Machine/Lifecycle.lean ====
section
/-! DEFINITION. Meanings of the two resets (spec/10_state.md R39, R40). -/

namespace Sys2Proof.Machine

open Sys2Proof

/-- Session reset (R40). -/
def execSessionReset (s : State) : Host.Outcome State Fault Refusal := .next (sessionReset s)

/-- Hardware reset (R39, R210). -/
def execHwReset (s : State) : Host.Outcome State Fault Refusal := .next (hwReset s)

end Sys2Proof.Machine
end

