-- ==== Sys2Proof/Machine/Arq.lean ====
section
/-! DEFINITION. Meanings of the ARQ Transfer Engine: SEND and RECEIVE and the steps of their phases (spec/42_arq.md R150
to R161). -/

namespace Sys2Proof.Machine

open Sys2Proof

/-! ## SEND -/

/-- SEND in `IDLE` with a payload that fits: write the frame, arm, wait (R150). -/
def sendStep (s : State) : State :=
  let t := { clearCounters s with txbuf := encData s.p (me s) s.ns s.txpay }
  writeThen t.txbuf (fun u => goto .txWaitAck (scannerReset (timerArm u))) t

/-- SEND: taken in `IDLE` with `|TXPAY| <= MSS`, refused otherwise with no state change (R83, R130, R150). -/
def execSendCmd (s : State) : Host.Outcome State Fault Refusal :=
  .next (if s.ph = .idle ∧ s.txpay.length ≤ s.p.mss then sendStep s else s)

/-- The RR the running SEND waits for (R152). -/
def expectedRr (s : State) : Bytes := template (pa s) (cRr s.p s.ns.toggle)

/-- The REJ the running SEND waits for (R152). -/
def expectedRej (s : State) : Bytes := template (pa s) (cRej s.p s.ns)

/-- The template set of `TX_WAIT_ACK` (R152). -/
def ackTemplates (s : State) : List Bytes := [expectedRr s, expectedRej s]

/-- The awaited RR has arrived (R153, branch `Match(rr)`). -/
def ackAccepted (s : State) : State :=
  complete .ok (.bytesWritten s.txbuf.length) (goto .idle (timerCancel (toggleNs s)))

/-- The awaited REJ has arrived: count it, then fail or resend at once (R154). -/
def rejMatched (s : State) : State :=
  let t := { timerCancel s with rejcnt := s.rejcnt + 1 }
  if t.maxRetries ≤ t.rejcnt then fatal .transferFailed t else writeThenArm t

/-- `TX_WAIT_ACK` on `RX(b)` (R153, R154). -/
def txWaitAckRx (b : Byte) (s : State) : State :=
  let ts := ackTemplates s
  match cscanResult b ts s with
  | none => afterCscan b ts s
  | some t => if t = expectedRr s then ackAccepted (afterCscan b ts s) else rejMatched (afterCscan b ts s)

/-- `TX_WAIT_ACK` on `TIMEOUT` (R155). -/
def txWaitAckTimeout (s : State) : State := retryWith .transferFailed writeThenArm s

/-! ## RECEIVE -/

/-- RECEIVE: taken in `IDLE`, refused elsewhere with no state change (R83, R130, R156). -/
def execReceiveCmd (s : State) : Host.Outcome State Fault Refusal :=
  .next (if s.ph = .idle then goto .rxFrame (scannerReset s) else s)

/-- Checksum2 mismatch: `REJ(NR)`, then `FrameCorrupt.Checksum2` (R157). -/
def rxFrameC2 (s : State) : State :=
  writeThen (encCtrl (me s) (cRej s.p s.nr)) (fun t => complete .frameCorruptChecksum2 .none (goto .idle t)) s

/-- New frame accepted: `RR(1 - NR)`, then `NR` advances and the payload is delivered (R158). -/
def rxFrameAccept (pl : Bytes) (s : State) : State :=
  writeThen (encCtrl (me s) (cRr s.p s.nr.toggle))
    (fun t => complete .ok (.packet pl) (goto .idle (toggleNr t))) s

/-- Duplicate: `RR(NR)` again, no packet (R159). -/
def rxFrameDup (s : State) : State :=
  writeThen (encCtrl (me s) (cRr s.p s.nr)) (fun t => complete .dup .none (goto .idle t)) s

/-- Checksum1 mismatch: no reply, `FrameCorrupt.Checksum1` (R160). -/
def rxFrameC1 (s : State) : State := complete .frameCorruptChecksum1 .none (goto .idle s)

/-- What a decoded run does: checksum1, then who and what, then checksum2, then the sequence bit (R156). -/
def classify (d : Decoded) (s : State) : State :=
  match d with
  | .checksum1Mismatch => rxFrameC1 s
  | .checksum2Mismatch a c =>
    match seqOfCode s.p c with
    | none => s
    | some _ => if a = pa s then rxFrameC2 s else s
  | .data a c pl =>
    match seqOfCode s.p c with
    | none => s
    | some sb => if a = pa s then (if sb = s.nr then rxFrameAccept pl s else rxFrameDup s) else s

/-- `RX_FRAME` on `RX(b)` (R156). -/
def rxFrameRx (b : Byte) (s : State) : State :=
  match dscanResult b s with
  | none => afterDscan b s
  | some raw => classify (decData raw) (afterDscan b s)

/-- The two ARQ waiting phases (R161). -/
def Phase.arq : Phase → Bool
  | .txWaitAck | .rxFrame => true
  | .closed | .idle | .oiWaitUa | .orWaitSet | .ciWaitDisc | .crWaitDisc | .crWaitUa => false

/-- `TX_WAIT_ACK.RX_RR`: the step on `RX(b)` as R153 writes it, whose `Match(rej)` branch is R154. -/
def execTxWaitAckRxRr (b : Byte) (s : State) : Host.Outcome State Fault Refusal :=
  whenEnabled (s.ph == .txWaitAck) (txWaitAckRx b s)

/-- `TX_WAIT_ACK.RX_REJ`: the `Match(rej)` branch of R153 (R154). -/
def execTxWaitAckRxRej (s : State) : Host.Outcome State Fault Refusal :=
  whenEnabled (s.ph == .txWaitAck) (rejMatched s)

/-- `TX_WAIT_ACK.TIMEOUT`, enabled while the timer is armed (R155, R173). -/
def execTxWaitAckTimeout (s : State) : Host.Outcome State Fault Refusal :=
  whenEnabled (s.ph == .txWaitAck && s.tarmed) (txWaitAckTimeout s)

/-- `RX_FRAME.RX` (R156). -/
def execRxFrameRx (b : Byte) (s : State) : Host.Outcome State Fault Refusal :=
  whenEnabled (s.ph == .rxFrame) (rxFrameRx b s)

/-- `RX_FRAME.C2` (R157). -/
def execRxFrameC2 (s : State) : Host.Outcome State Fault Refusal :=
  whenEnabled (s.ph == .rxFrame) (rxFrameC2 s)

/-- `RX_FRAME.ACCEPT` (R158). -/
def execRxFrameAccept (pl : Bytes) (s : State) : Host.Outcome State Fault Refusal :=
  whenEnabled (s.ph == .rxFrame) (rxFrameAccept pl s)

/-- `RX_FRAME.DUP` (R159). -/
def execRxFrameDup (s : State) : Host.Outcome State Fault Refusal :=
  whenEnabled (s.ph == .rxFrame) (rxFrameDup s)

/-- `RX_FRAME.C1` (R160). -/
def execRxFrameC1 (s : State) : Host.Outcome State Fault Refusal :=
  whenEnabled (s.ph == .rxFrame) (rxFrameC1 s)

/-- `RXERR(e)` in an ARQ phase: fatal (R161). -/
def execArqRxerr (e : ChanErr) (s : State) : Host.Outcome State Fault Refusal :=
  whenEnabled s.ph.arq (fatal (.channelError e) s)

end Sys2Proof.Machine
end

