-- ==== Sys2Proof/Machine/Handshake.lean ====
section
/-! DEFINITION. Meanings of the Connection Handshake: OPEN and CLOSE in both roles and the steps of their phases
(spec/41_handshake.md R130 to R141). Each phase step is a function on states; the meaning of its row adds where it is
enabled. -/

namespace Sys2Proof.Machine

open Sys2Proof

/-! ## Frames of the handshake (R85) -/

/-- `SET@I` -/
def setFrame (p : ParamSet) : Bytes := encCtrl p.aIni p.cSet

/-- `UA@R`, `UA@I` -/
def uaFrame (p : ParamSet) (r : Role) : Bytes := encCtrl (tag p r) p.cUa

/-- `DISC@I`, `DISC@R` -/
def discFrame (p : ParamSet) (r : Role) : Bytes := encCtrl (tag p r) p.cDisc

/-! ## OPEN (R131, R132, R135) -/

/-- OPEN as Initiator, after the session reset: arm, write SET, wait for UA (R132). -/
def openInitiator (s : State) : State :=
  let t := timerArm { s with txbuf := setFrame s.p }
  writeThen t.txbuf (goto .oiWaitUa) t

/-- OPEN as Responder, after the session reset: wait for SET; no timer, nothing written (R135). -/
def openResponder (s : State) : State := goto .orWaitSet s

/-- The session is opened on an acquired channel: session reset, then the role's own start (R131). -/
def openSession (s : State) : State :=
  let t := sessionReset (chanHold s)
  match t.role with
  | .initiator => openInitiator t
  | .responder => openResponder t

/-- OPEN in `CLOSED`: the role check, then the channel, then the session (R131). -/
def openStep (s : State) : State :=
  match roleOfCode s.cfg.role with
  | none => complete .invalidRole .none s
  | some _ =>
    match openAnswer s with
    | .error e => complete (.channelError e) .none (openCalled s)
    | .ok => openSession (openCalled s)

/-- OPEN: taken in `CLOSED`, refused elsewhere with no state change (R83, R130, R131). -/
def execOpenCmd (s : State) : Host.Outcome State Fault Refusal :=
  .next (if s.ph = .closed then openStep s else s)

/-! ## CLOSE (R136, R139) -/

/-- CLOSE as Initiator, start (R136). -/
def closeInitiator (s : State) : State :=
  let t := timerArm { scannerReset (clearCounters s) with txbuf := discFrame s.p .initiator }
  writeThen t.txbuf (goto .ciWaitDisc) t

/-- CLOSE as Responder, start (R139). -/
def closeResponder (s : State) : State := goto .crWaitDisc (scannerReset (clearCounters s))

/-- CLOSE: taken in `IDLE`, refused elsewhere with no state change (R83, R130, R136, R139). -/
def execCloseCmd (s : State) : Host.Outcome State Fault Refusal :=
  .next (if s.ph = .idle then
    (match s.role with
      | .initiator => closeInitiator s
      | .responder => closeResponder s)
    else s)

/-! ## Steps of the waiting phases -/

/-- `OI_WAIT_UA` on `RX(b)` (R133). -/
def oiWaitUaRx (b : Byte) (s : State) : State :=
  let ts := [template s.p.aRsp s.p.cUa]
  match cscanResult b ts s with
  | none => afterCscan b ts s
  | some _ => complete .ok .none (goto .idle (timerCancel (afterCscan b ts s)))

/-- `OI_WAIT_UA` on `TIMEOUT` (R134). -/
def oiWaitUaTimeout (s : State) : State := retryWith .connectionTimeout armThenWrite s

/-- `OR_WAIT_SET` on `RX(b)` (R135). -/
def orWaitSetRx (b : Byte) (s : State) : State :=
  let ts := [template s.p.aIni s.p.cSet]
  match cscanResult b ts s with
  | none => afterCscan b ts s
  | some _ =>
    writeThen (uaFrame s.p .responder) (fun t => complete .ok .none (goto .idle t)) (afterCscan b ts s)

/-- `CI_WAIT_DISC` on `RX(b)` (R137). -/
def ciWaitDiscRx (b : Byte) (s : State) : State :=
  let ts := [template s.p.aRsp s.p.cDisc]
  match cscanResult b ts s with
  | none => afterCscan b ts s
  | some _ =>
    writeThen (uaFrame s.p .initiator) (fun t => complete .ok .none (goto .closed (chanRelease t)))
      (timerCancel (afterCscan b ts s))

/-- `CI_WAIT_DISC` on `TIMEOUT` (R138). -/
def ciWaitDiscTimeout (s : State) : State := retryWith .connectionTimeout armThenWrite s

/-- `CR_WAIT_DISC` on `RX(b)` (R139). -/
def crWaitDiscRx (b : Byte) (s : State) : State :=
  let ts := [template s.p.aIni s.p.cDisc]
  match cscanResult b ts s with
  | none => afterCscan b ts s
  | some _ =>
    writeThen (discFrame s.p .responder) (fun t => goto .crWaitUa (scannerReset t)) (afterCscan b ts s)

/-- `CR_WAIT_UA` on `RX(b)` (R140). -/
def crWaitUaRx (b : Byte) (s : State) : State :=
  let ts := [template s.p.aIni s.p.cUa]
  match cscanResult b ts s with
  | none => afterCscan b ts s
  | some _ => complete .ok .none (goto .closed (chanRelease (afterCscan b ts s)))

/-- The five handshake phases (R141). -/
def Phase.handshake : Phase → Bool
  | .oiWaitUa | .orWaitSet | .ciWaitDisc | .crWaitDisc | .crWaitUa => true
  | .closed | .idle | .txWaitAck | .rxFrame => false

/-- `OI_WAIT_UA.RX` (R133). -/
def execOiWaitUaRx (b : Byte) (s : State) : Host.Outcome State Fault Refusal :=
  whenEnabled (s.ph == .oiWaitUa) (oiWaitUaRx b s)

/-- `OI_WAIT_UA.TIMEOUT`, enabled while the timer is armed (R134, R173). -/
def execOiWaitUaTimeout (s : State) : Host.Outcome State Fault Refusal :=
  whenEnabled (s.ph == .oiWaitUa && s.tarmed) (oiWaitUaTimeout s)

/-- `OR_WAIT_SET.RX` (R135). -/
def execOrWaitSetRx (b : Byte) (s : State) : Host.Outcome State Fault Refusal :=
  whenEnabled (s.ph == .orWaitSet) (orWaitSetRx b s)

/-- `CI_WAIT_DISC.RX` (R137). -/
def execCiWaitDiscRx (b : Byte) (s : State) : Host.Outcome State Fault Refusal :=
  whenEnabled (s.ph == .ciWaitDisc) (ciWaitDiscRx b s)

/-- `CI_WAIT_DISC.TIMEOUT`, enabled while the timer is armed (R138, R173). -/
def execCiWaitDiscTimeout (s : State) : Host.Outcome State Fault Refusal :=
  whenEnabled (s.ph == .ciWaitDisc && s.tarmed) (ciWaitDiscTimeout s)

/-- `CR_WAIT_DISC.RX` (R139). -/
def execCrWaitDiscRx (b : Byte) (s : State) : Host.Outcome State Fault Refusal :=
  whenEnabled (s.ph == .crWaitDisc) (crWaitDiscRx b s)

/-- `CR_WAIT_UA.RX` (R140). -/
def execCrWaitUaRx (b : Byte) (s : State) : Host.Outcome State Fault Refusal :=
  whenEnabled (s.ph == .crWaitUa) (crWaitUaRx b s)

/-- `RXERR(e)` in a handshake phase: fatal (R141). -/
def execHandshakeRxerr (e : ChanErr) (s : State) : Host.Outcome State Fault Refusal :=
  whenEnabled s.ph.handshake (fatal (.channelError e) s)

end Sys2Proof.Machine
end

