-- ==== Sys2Proof/Machine/Channel.lean ====
section
/-! DEFINITION. Meanings of the four collaborator calls (spec/20_memory.md R54 to R58). -/

namespace Sys2Proof.Machine

open Sys2Proof

/-- The phases in which the block reads the channel (R30, R55). -/
def Phase.waiting (ph : Phase) : Bool := ph.handshake || ph.arq

/-- `ChanOpen(CFG.channel_id, CFG.baud)`: on `Ok` the block holds the channel (R54). -/
def execChanOpen (s : State) : Host.Outcome State Fault Refusal :=
  .next (giveBack (.opened (openAnswer s)) (match openAnswer s with
    | .ok => chanHold (openCalled s)
    | .error _ => openCalled s))

/-- `ChanRead` returns an answer: it is handed back and has left the channel (R55). -/
def readReturns (a : ReadAnswer) (rest : List Input) (s : State) : State := giveBack (.read a) { s with inbox := rest }

/-- A read that blocks until the channel answers with a byte, an error or, while the timer is armed, the expiry (R55,
R173). A frame is read one byte at a time, and none of its bytes is left over (R174). What else is listed before the
answer happens while the read blocks, as in any waiting phase: a command and a write of `CFG` are refused (R83, R25), an
expiry that is not enabled is lost (R172), `TXPAY` is written (R34), and a hardware reset ends the read (R39;
notes/assumptions/3.md). With no answer listed the read still blocks (R55: "blocks indefinitely (no timer)";
spec/93_implementation_defined.md U11). -/
def readFrom : List Input → State → Host.Outcome State Fault Refusal
  | [], _ => .refused .readBlocks
  | .rx b :: rest, s => .next (readReturns (.byte b) rest s)
  | .frame [] :: rest, s => readFrom rest s
  | .frame [b] :: rest, s => .next (readReturns (.byte b) rest s)
  | .frame (b :: c :: bs) :: rest, s => .next (readReturns (.byte b) (.frame (c :: bs) :: rest) s)
  | .rxerr e :: rest, s => .next (readReturns (.error e) rest s)
  | .timeout :: rest, s => if s.tarmed then .next (readReturns .timeoutSignal rest s) else readFrom rest s
  | .cmd _ :: rest, s => readFrom rest s
  | .writeCfg _ :: rest, s => readFrom rest s
  | .writeTxpay bs :: rest, s => readFrom rest (hostWriteTxpay bs s)
  | .hwReset :: rest, s => .next (giveBack .none (hwReset { s with inbox := rest }))

/-- `ChanRead()`: called only in a waiting phase; consumes what it returns (R55). -/
def execChanRead (s : State) : Host.Outcome State Fault Refusal :=
  if s.ph.waiting then readFrom s.inbox s else .refused .eventNotEnabled

/-- `ChanWrite(bytes)`: on a whole count the bytes enter the TX stream (R57). -/
def execChanWrite (bs : Bytes) (s : State) : Host.Outcome State Fault Refusal :=
  .next (giveBack (.written (writeAnswer s)) (match writeError bs s with
    | none => sent bs s
    | some _ => writeCalled s))

/-- `ChanRelease()` (R58). -/
def execChanRelease (s : State) : Host.Outcome State Fault Refusal := .next (chanRelease s)

end Sys2Proof.Machine
end

