-- ==== Sys2Proof/Machine/Timer.lean ====
section
/-! DEFINITION. Meanings of the Timeout Supervisor: arm, cancel, the expiry and the shared retry step
(spec/43_timeout_supervisor.md R170 to R175). -/

namespace Sys2Proof.Machine

open Sys2Proof

/-- The three timed phases (R175). -/
def Phase.timed : Phase → Bool
  | .oiWaitUa | .ciWaitDisc | .txWaitAck => true
  | .closed | .idle | .orWaitSet | .rxFrame | .crWaitDisc | .crWaitUa => false

/-- The retry step with the error and the order of the phase (R175, the table). -/
def phaseRetry (s : State) : State :=
  match s.ph with
  | .oiWaitUa => oiWaitUaTimeout s
  | .ciWaitDisc => ciWaitDiscTimeout s
  | .txWaitAck => txWaitAckTimeout s
  | .closed | .idle | .orWaitSet | .rxFrame | .crWaitDisc | .crWaitUa => s

/-- `TimerArm()` (R171). -/
def execTimerArm (s : State) : Host.Outcome State Fault Refusal := .next (timerArm s)

/-- `TimerCancel()` (R172). -/
def execTimerCancel (s : State) : Host.Outcome State Fault Refusal := .next (timerCancel s)

/-- The event `TIMEOUT`: enabled exactly while `TARMED = 1`, in a timed phase (R173); it runs the phase's retry step. -/
def execTimeout (s : State) : Host.Outcome State Fault Refusal :=
  whenEnabled (s.tarmed && s.ph.timed) (phaseRetry s)

/-- The shared retry step, run in the three timed phases (R175). -/
def execRetryStep (s : State) : Host.Outcome State Fault Refusal :=
  whenEnabled s.ph.timed (phaseRetry s)

end Sys2Proof.Machine
end

