-- ==== Sys2Proof/Machine/Wire.lean ====
section
/-! DEFINITION. Meanings of the nine wire frames: what a delivered frame does to the block that receives it
(spec/30_encoding.md R76, R79 to R81). The block reads one byte per step (R11), so a frame's meaning is the meaning of
its bytes, one after the other, in the phase each of them finds. A byte that finds the block not reading is lost
(spec/93_implementation_defined.md U7 leaves kept or lost to the channel; a kept one is listed among the inputs again
where the channel returns it; notes/assumptions/3.md). -/

namespace Sys2Proof.Machine

open Sys2Proof

/-- The event `RX(b)` in the phase it finds (R11, R79). -/
def rxByte (b : Byte) (s : State) : State :=
  match s.ph with
  | .oiWaitUa => oiWaitUaRx b s
  | .orWaitSet => orWaitSetRx b s
  | .txWaitAck => txWaitAckRx b s
  | .rxFrame => rxFrameRx b s
  | .ciWaitDisc => ciWaitDiscRx b s
  | .crWaitDisc => crWaitDiscRx b s
  | .crWaitUa => crWaitUaRx b s
  | .closed | .idle => s

/-- Bytes received one after the other, the first one first (R59, R63 item 3). -/
def rxBytes (bs : Bytes) (s : State) : State := bs.foldl (fun t b => rxByte b t) s

/-- A SET arrives (R76, R135). -/
def execSet (s : State) : Host.Outcome State Fault Refusal := .next (rxBytes (setFrame s.p) s)

/-- A UA arrives (R76, R133, R140). -/
def execUa (r : Role) (s : State) : Host.Outcome State Fault Refusal := .next (rxBytes (uaFrame s.p r) s)

/-- A DISC arrives (R76, R137, R139). -/
def execDisc (r : Role) (s : State) : Host.Outcome State Fault Refusal := .next (rxBytes (discFrame s.p r) s)

/-- An I(0) frame arrives (R76, R156). -/
def execI0 (r : Role) (pl : Bytes) (s : State) : Host.Outcome State Fault Refusal :=
  .next (rxBytes (encData s.p (tag s.p r) false pl) s)

/-- An I(1) frame arrives (R76, R156). -/
def execI1 (r : Role) (pl : Bytes) (s : State) : Host.Outcome State Fault Refusal :=
  .next (rxBytes (encData s.p (tag s.p r) true pl) s)

/-- An RR(0) arrives (R76, R153). -/
def execRr0 (r : Role) (s : State) : Host.Outcome State Fault Refusal :=
  .next (rxBytes (encCtrl (tag s.p r) s.p.cRr0) s)

/-- An RR(1) arrives (R76, R153). -/
def execRr1 (r : Role) (s : State) : Host.Outcome State Fault Refusal :=
  .next (rxBytes (encCtrl (tag s.p r) s.p.cRr1) s)

/-- A REJ(0) arrives (R76, R154). -/
def execRej0 (r : Role) (s : State) : Host.Outcome State Fault Refusal :=
  .next (rxBytes (encCtrl (tag s.p r) s.p.cRej0) s)

/-- A REJ(1) arrives (R76, R154). -/
def execRej1 (r : Role) (s : State) : Host.Outcome State Fault Refusal :=
  .next (rxBytes (encCtrl (tag s.p r) s.p.cRej1) s)

end Sys2Proof.Machine
end

