-- ==== Sys2Proof/Machine/Dispatch.lean ====
section
/-! DEFINITION. The meaning of every operation: one arm per constructor, in the order of spec/opcode_table.json. -/

namespace Sys2Proof.Machine

open Sys2Proof

/-- What an operation does in a state. -/
def exec (i : Instr) (s : State) : Host.Outcome State Fault Refusal :=
  match i with
  | .set => Sys2Proof.Machine.execSet s
  | .ua r => Sys2Proof.Machine.execUa r s
  | .disc r => Sys2Proof.Machine.execDisc r s
  | .i0 r pl => Sys2Proof.Machine.execI0 r pl s
  | .i1 r pl => Sys2Proof.Machine.execI1 r pl s
  | .rr0 r => Sys2Proof.Machine.execRr0 r s
  | .rr1 r => Sys2Proof.Machine.execRr1 r s
  | .rej0 r => Sys2Proof.Machine.execRej0 r s
  | .rej1 r => Sys2Proof.Machine.execRej1 r s
  | .openCmd => Sys2Proof.Machine.execOpenCmd s
  | .sendCmd => Sys2Proof.Machine.execSendCmd s
  | .receiveCmd => Sys2Proof.Machine.execReceiveCmd s
  | .closeCmd => Sys2Proof.Machine.execCloseCmd s
  | .bcc1 a c => Sys2Proof.Machine.execBcc1 a c s
  | .bcc2 p => Sys2Proof.Machine.execBcc2 p s
  | .stuff bs => Sys2Proof.Machine.execStuff bs s
  | .stuffBcc2 p => Sys2Proof.Machine.execStuffBcc2 p s
  | .destuff r => Sys2Proof.Machine.execDestuff r s
  | .encCtrl a c => Sys2Proof.Machine.execEncCtrl a c s
  | .encData a sb p => Sys2Proof.Machine.execEncData a sb p s
  | .decData raw => Sys2Proof.Machine.execDecData raw s
  | .template a c => Sys2Proof.Machine.execTemplate a c s
  | .cscan b ts => Sys2Proof.Machine.execCscan b ts s
  | .dscan b => Sys2Proof.Machine.execDscan b s
  | .scannerReset => Sys2Proof.Machine.execScannerReset s
  | .oiWaitUaRx b => Sys2Proof.Machine.execOiWaitUaRx b s
  | .oiWaitUaTimeout => Sys2Proof.Machine.execOiWaitUaTimeout s
  | .orWaitSetRx b => Sys2Proof.Machine.execOrWaitSetRx b s
  | .ciWaitDiscRx b => Sys2Proof.Machine.execCiWaitDiscRx b s
  | .ciWaitDiscTimeout => Sys2Proof.Machine.execCiWaitDiscTimeout s
  | .crWaitDiscRx b => Sys2Proof.Machine.execCrWaitDiscRx b s
  | .crWaitUaRx b => Sys2Proof.Machine.execCrWaitUaRx b s
  | .handshakeRxerr e => Sys2Proof.Machine.execHandshakeRxerr e s
  | .txWaitAckRxRr b => Sys2Proof.Machine.execTxWaitAckRxRr b s
  | .txWaitAckRxRej => Sys2Proof.Machine.execTxWaitAckRxRej s
  | .txWaitAckTimeout => Sys2Proof.Machine.execTxWaitAckTimeout s
  | .rxFrameRx b => Sys2Proof.Machine.execRxFrameRx b s
  | .rxFrameC2 => Sys2Proof.Machine.execRxFrameC2 s
  | .rxFrameAccept p => Sys2Proof.Machine.execRxFrameAccept p s
  | .rxFrameDup => Sys2Proof.Machine.execRxFrameDup s
  | .rxFrameC1 => Sys2Proof.Machine.execRxFrameC1 s
  | .arqRxerr e => Sys2Proof.Machine.execArqRxerr e s
  | .timerArm => Sys2Proof.Machine.execTimerArm s
  | .timerCancel => Sys2Proof.Machine.execTimerCancel s
  | .timeout => Sys2Proof.Machine.execTimeout s
  | .retryStep => Sys2Proof.Machine.execRetryStep s
  | .complete st res => Sys2Proof.Machine.execComplete st res s
  | .fatal st => Sys2Proof.Machine.execFatal st s
  | .chanOpen => Sys2Proof.Machine.execChanOpen s
  | .chanRead => Sys2Proof.Machine.execChanRead s
  | .chanWrite bs => Sys2Proof.Machine.execChanWrite bs s
  | .chanRelease => Sys2Proof.Machine.execChanRelease s
  | .sessionReset => Sys2Proof.Machine.execSessionReset s
  | .hwReset => Sys2Proof.Machine.execHwReset s

end Sys2Proof.Machine
end

