-- ==== Sys2Proof/WellFormed.lean ====
section
/-! DEFINITION. Which operations are well formed for a parameter set: the bounds the rules put on their operands. -/

namespace Sys2Proof

/-- A control-frame template: five bytes with a delimiter at both ends (R72, R111). -/
def isTemplate (t : Bytes) : Bool :=
  t.length == CTRL_LEN && t.head? == some FLAG && t.getLast? == some FLAG

/-- The bounds on an operation's operands: a payload a conforming station sends is at most `MSS` bytes (R73, R107); a
delivered payload fits `RXPKT` (R53); `DEC_DATA` takes a delimited run (R110); `CSCAN` takes one or two templates
(R111, R112); one `ChanWrite` takes one whole frame (R57, R61); a result comes with status `OK` only, and only the
fatal statuses take the fatal path (R182, R189). -/
def Instr.wf (p : ParamSet) : Instr → Bool
  | .i0 _ pl | .i1 _ pl | .encData _ _ pl => decide (pl.length ≤ p.mss)
  | .decData raw => isRun raw
  | .cscan _ ts => decide (1 ≤ ts.length ∧ ts.length ≤ 2) && ts.all isTemplate
  | .rxFrameAccept pl => p.rxCap.all fun cap => decide (pl.length ≤ cap - 6)
  | .chanWrite bs => decide (CTRL_LEN ≤ bs.length ∧ bs.length ≤ 2 * p.mss + 7) && bs.head? == some FLAG &&
      bs.getLast? == some FLAG
  | .complete st res => decide (res = .none ∨ st = .ok)
  | .fatal st => st.fatal
  | .set | .ua _ | .disc _ | .rr0 _ | .rr1 _ | .rej0 _ | .rej1 _ | .openCmd | .sendCmd | .receiveCmd | .closeCmd => true
  | .bcc1 _ _ | .bcc2 _ | .stuff _ | .stuffBcc2 _ | .destuff _ | .encCtrl _ _ | .template _ _ | .dscan _
  | .scannerReset => true
  | .oiWaitUaRx _ | .oiWaitUaTimeout | .orWaitSetRx _ | .ciWaitDiscRx _ | .ciWaitDiscTimeout | .crWaitDiscRx _
  | .crWaitUaRx _ | .handshakeRxerr _ => true
  | .txWaitAckRxRr _ | .txWaitAckRxRej | .txWaitAckTimeout | .rxFrameRx _ | .rxFrameC2 | .rxFrameDup | .rxFrameC1
  | .arqRxerr _ => true
  | .timerArm | .timerCancel | .timeout | .retryStep | .chanOpen | .chanRead | .chanRelease | .sessionReset
  | .hwReset => true

end Sys2Proof
end

