-- ==== Sys2Proof/Decode.lean ====
section
/-! DEFINITION. Encodings: what an input says when read as an operation, and the encoder (spec/30_encoding.md R70 to
R86, spec/opcode_table.json). A control or data frame is a byte sequence (formats CTRL and DATA), a host command a
2-bit code (format CMD). The rows of format OP have no bit pattern (R86), so nothing decodes to them: the phase
and the event select them (Machine/Fetch.lean). -/

namespace Sys2Proof

/-- Why an input is not one of the thirteen encoded operations. -/
inductive DecodeError where
  /-- fewer bytes than a header -/
  | tooShort
  /-- the first byte is not `FLAG` (R71) -/
  | noOpeningFlag
  /-- the address is neither `A_INI` nor `A_RSP` (R75) -/
  | unknownAddress
  /-- checksum1 is not address xor control (R71) -/
  | badChecksum1
  /-- a five-byte frame whose control byte is none of the seven control-frame codes (R76) -/
  | unknownControl
  /-- a SET that does not carry the Initiator's address (R76; table row SET) -/
  | wrongSender
  /-- a longer frame whose control byte is neither `C_I0` nor `C_I1` (R76) -/
  | notADataCode
  /-- the last byte is not `FLAG` (R72, R73) -/
  | noClosingFlag
  /-- the stuffed region ends in a lone escape byte (R82, R105) -/
  | danglingEscape
  /-- checksum2 is not the exclusive-or of the payload (R73) -/
  | badChecksum2
  /-- the stuffed region is not what an encoder produces: another escape pair, or a bare delimiter (R82) -/
  | notCanonical
  /-- an input that is no frame and no command code -/
  | notAnEncoding
deriving DecidableEq, Repr

/-- The host command of a 2-bit code (R83). -/
def decodeCmd (code : BitVec 2) : Instr :=
  if code = 0 then .openCmd else if code = 1 then .sendCmd else if code = 2 then .receiveCmd else .closeCmd

/-- The control frame of a sender and a control byte, by equality with the parameters (R76, R77). -/
def decodeCtrl (p : ParamSet) (r : Role) (c : Byte) : Except DecodeError Instr :=
  if c = p.cSet then (if r = .initiator then .ok .set else .error .wrongSender)
  else if c = p.cUa then .ok (.ua r)
  else if c = p.cDisc then .ok (.disc r)
  else if c = p.cRr0 then .ok (.rr0 r)
  else if c = p.cRr1 then .ok (.rr1 r)
  else if c = p.cRej0 then .ok (.rej0 r)
  else if c = p.cRej1 then .ok (.rej1 r)
  else .error .unknownControl

/-- The data frame of a sender, a sequence bit and a payload. -/
def dataInstr (r : Role) (s : SeqBit) (pl : Bytes) : Instr := if s then .i1 r pl else .i0 r pl

/-- The data frame whose bytes after the header are `rest`, exactly as an encoder writes it (R73, R107). -/
def decodeDataRest (r : Role) (s : SeqBit) (rest : Bytes) : Except DecodeError Instr :=
  if rest.getLast? = some FLAG then
    match destuff rest.dropLast with
    | none => .error .danglingEscape
    | some d =>
      match d.getLast? with
      | none => .error .tooShort
      | some b2 =>
        if bcc2 d.dropLast = b2 then
          if stuff d.dropLast ++ stuffedBcc2 d.dropLast ++ [FLAG] = rest then .ok (dataInstr r s d.dropLast)
          else .error .notCanonical
        else .error .badChecksum2
  else .error .noClosingFlag

/-- The operation a whole frame stands for, or the reason it is none (R70 to R77). Only what a conforming encoder
writes is accepted; a frame that is refused here still reaches the scanners byte by byte. -/
def decodeFrame (p : ParamSet) : Bytes → Except DecodeError Instr
  | f :: a :: c :: b1 :: rest =>
    if f = FLAG then
      match roleOfTag p a with
      | none => .error .unknownAddress
      | some r =>
        if b1 = bcc1 a c then
          if rest = [FLAG] then decodeCtrl p r c
          else
            match seqOfCode p c with
            | none => .error .notADataCode
            | some s => decodeDataRest r s rest
        else .error .badChecksum1
    else .error .noOpeningFlag
  | _ => .error .tooShort

/-- The operation an input is the encoding of. Total: every other input is rejected by name. -/
def decode (p : ParamSet) : Input → Except DecodeError Instr
  | .cmd code => .ok (decodeCmd code)
  | .frame bs => decodeFrame p bs
  | .rx _ | .timeout | .rxerr _ | .writeCfg _ | .writeTxpay _ | .hwReset => .error .notAnEncoding

/-! ## The encoder -/

/-- The encoding of an operation: a frame in wire order (R72, R73, R76) or a command code (R83); none for a row of
format OP (R86). -/
def encode (p : ParamSet) : Instr → Option Input
  | .set => some (.frame (encCtrl p.aIni p.cSet))
  | .ua r => some (.frame (encCtrl (tag p r) p.cUa))
  | .disc r => some (.frame (encCtrl (tag p r) p.cDisc))
  | .i0 r pl => some (.frame (encData p (tag p r) false pl))
  | .i1 r pl => some (.frame (encData p (tag p r) true pl))
  | .rr0 r => some (.frame (encCtrl (tag p r) p.cRr0))
  | .rr1 r => some (.frame (encCtrl (tag p r) p.cRr1))
  | .rej0 r => some (.frame (encCtrl (tag p r) p.cRej0))
  | .rej1 r => some (.frame (encCtrl (tag p r) p.cRej1))
  | .openCmd => some (.cmd 0)
  | .sendCmd => some (.cmd 1)
  | .receiveCmd => some (.cmd 2)
  | .closeCmd => some (.cmd 3)
  | .bcc1 _ _ | .bcc2 _ | .stuff _ | .stuffBcc2 _ | .destuff _ | .encCtrl _ _ | .encData _ _ _ | .decData _
  | .template _ _ | .cscan _ _ | .dscan _ | .scannerReset => none
  | .oiWaitUaRx _ | .oiWaitUaTimeout | .orWaitSetRx _ | .ciWaitDiscRx _ | .ciWaitDiscTimeout | .crWaitDiscRx _
  | .crWaitUaRx _ | .handshakeRxerr _ => none
  | .txWaitAckRxRr _ | .txWaitAckRxRej | .txWaitAckTimeout | .rxFrameRx _ | .rxFrameC2 | .rxFrameAccept _
  | .rxFrameDup | .rxFrameC1 | .arqRxerr _ => none
  | .timerArm | .timerCancel | .timeout | .retryStep | .complete _ _ | .fatal _ => none
  | .chanOpen | .chanRead | .chanWrite _ | .chanRelease | .sessionReset | .hwReset => none

/-! ## The opcode table's own numbering

A row of format CMD is a 2-bit code in bits 1..0; a row of format CTRL or DATA is the control byte, index 2 of the
frame, in bits 7..0 (R86). Both are given in one byte, and under `P-DEFAULT` three bytes are both: 0 is OPEN and
I(0), 1 is SEND and REJ(0), 3 is CLOSE and SET. The two come in at different ports of the block, so the hardware never
has to tell them apart; here a byte below 4 is read as a command code (DESIGN CHOICE, notes/assumptions/4.md). -/

/-- The input a table word stands for: a command code, or the frame with that control byte whose other operands are
zero (sender 0, the Initiator; an empty payload, whose checksum2 is 0). -/
def tableInput (p : ParamSet) (nbits w : Nat) : Input :=
  if nbits < 8 ∨ w < 4 then .cmd (BitVec.ofNat 2 w)
  else
    let c : Byte := BitVec.ofNat 8 w
    let hdr : Bytes := [FLAG, p.aIni, c, bcc1 p.aIni c]
    .frame (if c = p.cI0 ∨ c = p.cI1 then hdr ++ [0x00, FLAG] else hdr ++ [FLAG])

/-- The operation the decoder reads from a table word, with the `P-DEFAULT` values the table is written in (R86). -/
def decodeTableWord (nbits w : Nat) : Option Instr :=
  (decode ParamSet.pDefault (tableInput ParamSet.pDefault nbits w)).toOption

end Sys2Proof
end

