-- ==== Sys2Proof/Machine/Fetch.lean ====
section
/-! DEFINITION. What the next input starts. The block fetches no instructions; the phase register and the scanner state
select what an event runs (spec/10_state.md R30, spec/00_scope.md R11). -/

namespace Sys2Proof.Machine

open Sys2Proof

/-- The operation `RX(b)` runs in a phase; none where the block is not reading (R11, R55). -/
def rxInstr (ph : Phase) (b : Byte) : Option Instr :=
  match ph with
  | .oiWaitUa => some (.oiWaitUaRx b)
  | .orWaitSet => some (.orWaitSetRx b)
  | .txWaitAck => some (.txWaitAckRxRr b)
  | .rxFrame => some (.rxFrameRx b)
  | .ciWaitDisc => some (.ciWaitDiscRx b)
  | .crWaitDisc => some (.crWaitDiscRx b)
  | .crWaitUa => some (.crWaitUaRx b)
  | .closed | .idle => none

/-- The operation `TIMEOUT` runs: a timed phase's own step while the timer is armed, none otherwise (R173). -/
def timeoutInstr (ph : Phase) (armed : Bool) : Option Instr :=
  if armed then
    match ph with
    | .oiWaitUa => some .oiWaitUaTimeout
    | .ciWaitDisc => some .ciWaitDiscTimeout
    | .txWaitAck => some .txWaitAckTimeout
    | .closed | .idle | .orWaitSet | .rxFrame | .crWaitDisc | .crWaitUa => none
  else none

/-- The operation `RXERR(e)` runs; none where the block is not reading (R141, R161). -/
def rxerrInstr (ph : Phase) (e : ChanErr) : Option Instr :=
  if ph.handshake then some (.handshakeRxerr e) else if ph.arq then some (.arqRxerr e) else none

/-- The operation an input starts in a state, if it starts one. -/
def inputInstr (s : State) : Input → Option Instr
  | .cmd code => some (decodeCmd code)
  | .frame bs => (decodeFrame s.p bs).toOption
  | .rx b => rxInstr s.ph b
  | .timeout => timeoutInstr s.ph s.tarmed
  | .rxerr e => rxerrInstr s.ph e
  | .hwReset => some .hwReset
  | .writeCfg _ | .writeTxpay _ => none

/-- What an input does that starts no operation: a host register write; a frame that is none of the nine kinds, whose
bytes reach the scanners all the same (R80, R81); an event that is not enabled, which is lost (R172, R192). -/
def inputAlone (s : State) : Input → State
  | .frame bs => rxBytes bs s
  | .writeCfg w => hostWriteCfg w s
  | .writeTxpay bs => hostWriteTxpay bs s
  | .cmd _ | .rx _ | .timeout | .rxerr _ | .hwReset => s

end Sys2Proof.Machine
end

