-- ==== Sys2Proof/Machine/Step.lean ====
section
/-! DEFINITION. One atomic step: the next input is taken and everything it causes happens before the input after it is
looked at (spec/00_scope.md R11). With no input listed no step is enabled (spec/70_reset_and_hazards.md R224). -/

namespace Sys2Proof.Machine

open Sys2Proof

/-- One step of the block. -/
def step (s : State) : Host.Outcome State Fault Refusal :=
  match s.inbox with
  | [] => .refused .awaitingInput
  | e :: rest =>
    match inputInstr s e with
    | some i => exec i { s with inbox := rest }
    | none => .next (inputAlone { s with inbox := rest } e)

/-- The state with a table word as the next input: the very next step runs it. A program of this block is the list of
inputs its surroundings give it; it is loaded from outside (notes/assumptions/4.md). -/
def State.withFetchWord (s : State) (nbits w : Nat) : State :=
  { s with inbox := tableInput s.p nbits w :: s.inbox }

end Sys2Proof.Machine
end

