-- ==== Sys2Proof/Safety.lean ====
section
/-! DEFINITION. The terms claims are stated in: what a collaborator's answer is, where a scanner stands, which states a
run can reach (spec/10_state.md R41), and what two states share when only discarded elements differ (R36). -/

namespace Sys2Proof.Machine

open Sys2Proof

/-! ## Premises -/

/-- The next `ChanWrite` of these bytes succeeds (R57). -/
abbrev State.WriteOk (s : State) (bs : Bytes) : Prop := writeError bs s = none

/-- The scanner is in `WaitDelimiter`, as at the first byte of a frame that is not shifted
(spec/95_test_vectors.md H3). -/
abbrev State.Aligned (s : State) : Prop := s.sc = .waitDelimiter ∧ s.rxbuf = []

/-- The six control-scanner phases (R79). -/
def Phase.control : Phase → Bool
  | .oiWaitUa | .orWaitSet | .txWaitAck | .ciWaitDisc | .crWaitDisc | .crWaitUa => true
  | .closed | .idle | .rxFrame => false

/-- What each control-scanner phase accepts, as R80 lists it. -/
def State.awaited (s : State) : List Bytes :=
  match s.ph with
  | .oiWaitUa => [encCtrl s.p.aRsp s.p.cUa]
  | .orWaitSet => [encCtrl s.p.aIni s.p.cSet]
  | .ciWaitDisc => [encCtrl s.p.aRsp s.p.cDisc]
  | .crWaitDisc => [encCtrl s.p.aIni s.p.cDisc]
  | .crWaitUa => [encCtrl s.p.aIni s.p.cUa]
  | .txWaitAck => [encCtrl (pa s) (cRr s.p s.ns.toggle), encCtrl (pa s) (cRej s.p s.ns)]
  | .closed | .idle | .rxFrame => []

/-! ## Invariant (R41) -/

/-- What holds in every state a run reaches. -/
structure Inv (s : State) : Prop where
  /-- R41 item 1 and the column "Timer" of R30: the timer is armed exactly in the three timed phases. -/
  timer : s.tarmed = s.ph.timed
  /-- R33 and R41 item 2: the channel is held exactly while a session exists. -/
  channel : s.chanHeld = decide (s.ph ≠ .closed)
  /-- R41 item 3: neither counter has reached `MAX_RETRIES` (a maximum of 0 behaves as 1, R23). -/
  counters : s.ph ≠ .closed → s.retry < max s.maxRetries 1 ∧ s.rejcnt < max s.maxRetries 1
  /-- R31, R41 item 4: `Reading(i)` holds `i >= 1` bytes, the first of them `FLAG`. -/
  reading : ∀ i, s.sc = .reading i → s.rxbuf.length = i ∧ 1 ≤ i ∧ s.rxbuf.head? = some FLAG
  /-- R31: outside `Reading` and `Matched` the receive buffer is empty. -/
  cleared : s.sc = .waitDelimiter ∨ s.sc = .overflow → s.rxbuf = []
  /-- R31, R41 item 4: a control-scanner phase is in `WaitDelimiter` or in `Reading(i)` with `i <= 4`. -/
  controlScan : s.ph.control = true → s.sc = .waitDelimiter ∨ ∃ i, i ≤ 4 ∧ s.sc = .reading i
  /-- R31, R41 item 4: in `RX_FRAME` the scanner is not in `Matched` and no byte after the first is `FLAG`. -/
  dataScan : s.ph = .rxFrame → s.sc ≠ .matched ∧ ∀ i, s.sc = .reading i → FLAG ∉ s.rxbuf.tail
  /-- R26, R30: the phases of a handshake belong to one role. -/
  initiator : s.ph = .oiWaitUa ∨ s.ph = .ciWaitDisc → s.role = .initiator
  /-- R26, R30: likewise for the Responder. -/
  responder : s.ph = .orWaitSet ∨ s.ph = .crWaitDisc ∨ s.ph = .crWaitUa → s.role = .responder
  /-- R32: in a timed phase `TXBUF` holds the frame the running command wrote: its SET, its DISC, or its data frame
  with the current sequence bit and a payload of at most `MSS` bytes. -/
  txFrame : (s.ph = .oiWaitUa → s.txbuf = encCtrl s.p.aIni s.p.cSet) ∧
    (s.ph = .ciWaitDisc → s.txbuf = encCtrl s.p.aIni s.p.cDisc) ∧
    (s.ph = .txWaitAck → ∃ pl : Bytes, pl.length ≤ s.p.mss ∧ s.txbuf = encData s.p (me s) s.ns pl)
  /-- R52: `TXBUF` needs at most `2*MSS + 7` bytes. -/
  txFits : s.txbuf.length ≤ 2 * s.p.mss + 7
  /-- R52: `RXBUF` never holds more than `RX_CAP` bytes. -/
  rxFits : s.p.runFits s.rxbuf.length
  /-- R113: while a run is read in `RX_FRAME` there is room for one more byte. -/
  rxRoom : s.ph = .rxFrame → ∀ i, s.sc = .reading i → s.p.runFits (i + 1)
  /-- R53: a delivered packet fits `RXPKT`, which has room for `RX_CAP - 6` bytes. -/
  packetFits : s.rxpkt = [] ∨ s.p.runFits (s.rxpkt.length + 6)
  /-- R23, R24: the two numeric fields of `CFG` fit their widths. -/
  widths : s.cfg.maxRetries < 2 ^ s.p.wRetry ∧ s.cfg.timeout < 2 ^ s.p.wTimeout

/-! ## Discarded state (R36) -/

/-- The same state with other values in the elements that a session discards: everything of SessionState and of the
working state but `PH`, `TARMED` and `CHAN_HELD` (R36; spec/92_eei_decisions.md D30). -/
structure Discarded where
  role : Role
  ns : SeqBit
  nr : SeqBit
  retry : Nat
  rejcnt : Nat
  sc : Scan
  rxbuf : Bytes
  txbuf : Bytes
deriving DecidableEq, Repr

/-- Put other values into the discarded elements of a state. -/
def State.withDiscarded (s : State) (d : Discarded) : State :=
  { s with
    role := d.role
    ns := d.ns
    nr := d.nr
    retry := d.retry
    rejcnt := d.rejcnt
    sc := d.sc
    rxbuf := d.rxbuf
    txbuf := d.txbuf }

/-- Two states a host and a channel cannot tell apart now or later: equal, or both closed and equal but for discarded
elements. -/
def SameUpToDiscarded (s t : State) : Prop :=
  s = t ∨ (s.ph = .closed ∧ ∃ d, t = s.withDiscarded d)

/-! ## Ends of a command -/

/-- A command has failed fatally between two states: the block is closed, the timer is off, the channel released, the
status reported once; nothing was put into the TX stream, and neither the host's data nor its results changed
(R189). -/
structure FailedWith (st : Status) (s t : State) : Prop where
  phase : t.ph = .closed
  timer : t.tarmed = false
  channel : t.chanHeld = false
  status : t.status = st
  once : t.done = s.done + 1
  nothingWritten : t.txCalls = s.txCalls
  packet : t.rxpkt = s.rxpkt
  result : t.resultLen = s.resultLen
  config : t.cfg = s.cfg
  payload : t.txpay = s.txpay
  parameters : t.params = s.params
  inputs : t.inbox = s.inbox

/-! ## Runs -/

/-- The next state of an outcome, if it is one. -/
def nextOf (o : Host.Outcome State Fault Refusal) : Option State :=
  match o with
  | .next s => some s
  | .fault _ => none
  | .refused _ => none

end Sys2Proof.Machine
end

