-- ==== Sys2Proof/Certificates/Slice0/Obligations.lean ====
section
/-! DEFINITION. The statements for the provers. A result is stated as the whole next state, so what an operation leaves
unchanged (its frame) is part of it: every field not named after `with` is as it was. The block has no addressed memory
(R50); its buffers are fields of the state. `sent bs s` is `s` after a successful `ChanWrite` of `bs`:
`ChannelCallsGiveTheirAnswers` says what that changes. -/

open Sys2Proof Sys2Proof.Machine

/-! ## Parameters and reset -/

/-- R9: a parameter set is refused exactly when it breaks (a), (b) or (c); R10 and R52 add the size of the receive
buffer. R9 is marked derived and the buffer bound rests on decision D9. -/
def Obligations.IllFormedParameterSetsAreRefused : Prop :=
  ∀ p : ParamSet, p.check = none ↔
    ¬ (p.aIni ≠ p.aRsp ∧
       [p.cSet, p.cUa, p.cDisc, p.cI0, p.cI1, p.cRr0, p.cRr1, p.cRej0, p.cRej1].Pairwise (· ≠ ·) ∧
       (∀ a ∈ [p.aIni, p.aRsp], a ≠ 0x7E ∧
          ∀ c ∈ [p.cSet, p.cUa, p.cDisc, p.cI0, p.cI1, p.cRr0, p.cRr1, p.cRej0, p.cRej1],
            c ≠ 0x7E ∧ a ^^^ c ≠ 0x7E) ∧
       (∀ cap, p.rxCap = some cap → 2 * p.mss + 7 ≤ cap))

/-- R39: the elements the rule gives a value have it after hardware reset, in the reset state and after HW_RESET in
any state; what stands around the block stays as it was. The table is the spec's decision D24; nothing is said of the
elements it leaves unspecified. That the parameters and what stands around the block (`params`, `inbox`, `txCalls`,
`done`) stay as they were is the model's choice (notes/assumptions/16.md). -/
def Obligations.HardwareResetLeavesTheResetTable : Prop :=
  (State.reset.ph = .closed ∧ State.reset.tarmed = false ∧ State.reset.chanHeld = false ∧
    State.reset.sc = .waitDelimiter ∧ State.reset.rxbuf = [] ∧ State.reset.txbuf = [] ∧ State.reset.ns = false ∧
    State.reset.nr = false ∧ State.reset.retry = 0 ∧ State.reset.rejcnt = 0) ∧
  ∀ s : State, ∃ t, exec .hwReset s = .next t ∧
    t.ph = .closed ∧ t.tarmed = false ∧ t.chanHeld = false ∧ t.sc = .waitDelimiter ∧ t.rxbuf = [] ∧ t.txbuf = [] ∧
    t.ns = false ∧ t.nr = false ∧ t.retry = 0 ∧ t.rejcnt = 0 ∧
    t.params = s.params ∧ t.inbox = s.inbox ∧ t.txCalls = s.txCalls ∧ t.done = s.done

/-- R40: session reset writes exactly these elements. The zeros are marked derived in R40. -/
def Obligations.SessionResetWritesTheSessionState : Prop :=
  ∀ s : State, exec .sessionReset s = .next
    { s with
      role := if s.cfg.role = 0 then .initiator else .responder
      ns := false
      nr := false
      retry := 0
      rejcnt := 0
      tarmed := false
      sc := .waitDelimiter
      rxbuf := []
      txbuf := [] }

/-! ## Codec -/

/-- R100, R101: both checksums are plain exclusive-or, checksum2 over the whole payload from zero. -/
def Obligations.ChecksumsAreXorFolds : Prop :=
  ∀ (a c b : Byte) (p : Bytes) (s : State),
    exec (.bcc1 a c) s = .next { s with opResult := .byte (a ^^^ c) } ∧
    exec (.bcc2 []) s = .next { s with opResult := .byte 0 } ∧
    exec (.bcc2 p) s = .next { s with opResult := .byte (p.foldr (fun x acc => x ^^^ acc) 0) } ∧
    exec (.bcc2 (p ++ [b])) s = .next { s with opResult := .byte (p.foldr (fun x acc => x ^^^ acc) 0 ^^^ b) }

/-- R102: each delimiter or escape byte becomes the pair of escape and byte xor 0x20, every other byte itself; the
length grows by one for each. R104: the checksum2 byte is stuffed like payload. -/
def Obligations.StuffingReplacesDelimiterAndEscape : Prop :=
  ∀ (bs p : Bytes) (s : State),
    (∃ out : Bytes,
      exec (.stuff bs) s = .next { s with opResult := .bytes out } ∧
      out = bs.flatMap (fun b => if b = 0x7E ∨ b = 0x7D then [0x7D, b ^^^ 0x20] else [b]) ∧
      out.length = bs.length + (bs.filter fun b => b = 0x7E ∨ b = 0x7D).length) ∧
    exec (.stuffBcc2 p) s = .next
      { s with
        opResult := .bytes
          (if p.foldr (fun b acc => b ^^^ acc) 0 = 0x7E then [0x7D, 0x5E]
          else if p.foldr (fun b acc => b ^^^ acc) 0 = 0x7D then [0x7D, 0x5D]
          else [p.foldr (fun b acc => b ^^^ acc) 0]) }

/-- R103 (a), (b), (c): destuffing undoes stuffing; a stuffed sequence holds no delimiter and no escape byte but the
first byte of one of the two pairs; stuffing distributes over concatenation and is injective, destuffing is not.
Clause (c) is marked derived in R103; destuffing of non-canonical pairs is decision D16. -/
def Obligations.StuffingIsReversible : Prop :=
  ∀ (b1 b2 : Bytes) (s : State), ∃ o1 o2 : Bytes,
    exec (.stuff b1) s = .next { s with opResult := .bytes o1 } ∧
    exec (.stuff b2) s = .next { s with opResult := .bytes o2 } ∧
    exec (.destuff o1) s = .next { s with opResult := .bytes b1 } ∧
    (∃ units : List Bytes, o1 = units.flatten ∧
      ∀ u ∈ units, u = [0x7D, 0x5E] ∨ u = [0x7D, 0x5D] ∨ ∃ b : Byte, b ≠ 0x7E ∧ b ≠ 0x7D ∧ u = [b]) ∧
    (0x7E : Byte) ∉ o1 ∧
    exec (.stuff (b1 ++ b2)) s = .next { s with opResult := .bytes (o1 ++ o2) } ∧
    (o1 = o2 → b1 = b2) ∧
    exec (.destuff [0x7D, 0x41]) s = exec (.destuff [0x61]) s

/-- R105: a pair gives its second byte xor 0x20 whatever that byte is, a dangling escape is `Malformed`, `Malformed`
is absorbing, every other byte is itself; the result is never longer than the input. The equations for non-canonical
input are the spec's decision D16. -/
def Obligations.DestuffingFollowsItsEquations : Prop :=
  ∀ (x b : Byte) (r : Bytes) (s : State), b ≠ 0x7D →
    exec (.destuff []) s = .next { s with opResult := .bytes [] } ∧
    exec (.destuff [0x7D]) s = .next { s with opResult := .malformed } ∧
    ((∃ d : Bytes, d.length ≤ r.length ∧
        exec (.destuff r) s = .next { s with opResult := .bytes d } ∧
        exec (.destuff (0x7D :: x :: r)) s = .next { s with opResult := .bytes ((x ^^^ 0x20) :: d) } ∧
        exec (.destuff (b :: r)) s = .next { s with opResult := .bytes (b :: d) }) ∨
     (exec (.destuff r) s = .next { s with opResult := .malformed } ∧
        exec (.destuff (0x7D :: x :: r)) s = .next { s with opResult := .malformed } ∧
        exec (.destuff (b :: r)) s = .next { s with opResult := .malformed }))

/-- R106, R111: a control frame, and the template a scanner compares against, are these five bytes. -/
def Obligations.ControlFramesHaveFiveBytes : Prop :=
  ∀ (a c : Byte) (s : State),
    exec (.encCtrl a c) s = .next { s with opResult := .bytes [0x7E, a, c, a ^^^ c, 0x7E] } ∧
    exec (.template a c) s = .next { s with opResult := .bytes [0x7E, a, c, a ^^^ c, 0x7E] }

/-- R107, R108: a data frame is header, stuffed payload, stuffed checksum2, delimiter; it has `6 + k` to `2k + 7`
bytes; with an address of the parameter set the delimiter stands at the two ends and nowhere else. R108 is marked
derived. -/
def Obligations.DataFramesAreDelimitedByTheirEnds : Prop :=
  ∀ (a : Byte) (sb : SeqBit) (pl : Bytes) (s : State), ∃ body : Bytes,
    let c := if sb = true then s.p.cI1 else s.p.cI0
    let f : Bytes := [0x7E, a, c, a ^^^ c] ++ body ++ [0x7E]
    exec (.encData a sb pl) s = .next { s with opResult := .bytes f } ∧
    body = (pl ++ [pl.foldr (fun b acc => b ^^^ acc) 0]).flatMap
      (fun b => if b = 0x7E ∨ b = 0x7D then [0x7D, b ^^^ 0x20] else [b]) ∧
    6 + pl.length ≤ f.length ∧ f.length ≤ 2 * pl.length + 7 ∧
    (a = s.p.aIni ∨ a = s.p.aRsp → (0x7E : Byte) ∉ [a, c, a ^^^ c] ++ body)

/-- R109, R110: checksum1 is checked first, from the raw header; only then is the region destuffed and checksum2
compared. That a malformed region is a checksum2 mismatch is decision D16. -/
def Obligations.DecodingChecksChecksum1First : Prop :=
  ∀ (a c b1 : Byte) (region : Bytes) (s : State),
    (0x7E : Byte) ∉ a :: c :: b1 :: region → region ≠ [] →
    let raw : Bytes := 0x7E :: a :: c :: b1 :: (region ++ [0x7E])
    (b1 ≠ a ^^^ c → exec (.decData raw) s = .next { s with opResult := .decoded .checksum1Mismatch }) ∧
    (b1 = a ^^^ c → exec (.destuff region) s = .next { s with opResult := .malformed } →
      exec (.decData raw) s = .next { s with opResult := .decoded (.checksum2Mismatch a c) }) ∧
    (∀ (d : Bytes) (b2 : Byte), b1 = a ^^^ c →
      exec (.destuff region) s = .next { s with opResult := .bytes (d ++ [b2]) } →
      exec (.decData raw) s = .next
        { s with
          opResult := .decoded
            (if d.foldr (fun b acc => b ^^^ acc) 0 = b2 then .data a c d else .checksum2Mismatch a c) })

/-- R107, R110: every data frame with an address of the parameter set decodes to its own fields. -/
def Obligations.EncodedDataFramesDecodeToTheirPayload : Prop :=
  ∀ (r : Role) (sb : SeqBit) (pl : Bytes) (s : State),
    exec (.decData (encData s.p (tag s.p r) sb pl)) s = .next
      { s with opResult := .decoded (.data (tag s.p r) (cI s.p sb) pl) }

/-! ## Scanners -/

/-- R112: one step of the control scanner. That the byte ending a failed match is consumed is the reading of decision
D33. -/
def Obligations.ControlScannerCountsFiveBytes : Prop :=
  ∀ (b : Byte) (ts : List Bytes) (s : State),
    (s.sc = .waitDelimiter → b ≠ 0x7E → exec (.cscan b ts) s = .next { s with opResult := .noMatch }) ∧
    (s.sc = .waitDelimiter → b = 0x7E →
      exec (.cscan b ts) s = .next { s with sc := .reading 1, rxbuf := [b], opResult := .noMatch }) ∧
    (∀ i, s.sc = .reading i → i + 1 < 5 →
      exec (.cscan b ts) s = .next { s with sc := .reading (i + 1), rxbuf := s.rxbuf ++ [b], opResult := .noMatch }) ∧
    (s.sc = .reading 4 → s.rxbuf ++ [b] ∈ ts →
      exec (.cscan b ts) s = .next
        { s with sc := .matched, rxbuf := s.rxbuf ++ [b], opResult := .isMatch (s.rxbuf ++ [b]) }) ∧
    (s.sc = .reading 4 → s.rxbuf ++ [b] ∉ ts →
      exec (.cscan b ts) s = .next { s with sc := .waitDelimiter, rxbuf := [], opResult := .noMatch })

/-- R113: one step of the data scanner. The least run length is decision D14, the overflow branch decision D9. -/
def Obligations.DataScannerReadsToTheNextDelimiter : Prop :=
  ∀ (b : Byte) (s : State),
    (s.sc = .waitDelimiter → b ≠ 0x7E → exec (.dscan b) s = .next { s with opResult := .noFrame }) ∧
    (s.sc = .waitDelimiter → b = 0x7E →
      exec (.dscan b) s = .next { s with sc := .reading 1, rxbuf := [b], opResult := .noFrame }) ∧
    (∀ i, s.sc = .reading i → b = 0x7E → i + 1 < 6 →
      exec (.dscan b) s = .next { s with sc := .waitDelimiter, rxbuf := [], opResult := .noFrame }) ∧
    (∀ i, s.sc = .reading i → b = 0x7E → 6 ≤ i + 1 →
      exec (.dscan b) s = .next { s with sc := .waitDelimiter, rxbuf := [], opResult := .isFrame (s.rxbuf ++ [b]) }) ∧
    (∀ i cap, s.sc = .reading i → b ≠ 0x7E → s.p.rxCap = some cap → cap ≤ i + 1 →
      exec (.dscan b) s = .next { s with sc := .overflow, rxbuf := [], opResult := .noFrame }) ∧
    (∀ i, s.sc = .reading i → b ≠ 0x7E → (∀ cap, s.p.rxCap = some cap → i + 1 < cap) →
      exec (.dscan b) s = .next { s with sc := .reading (i + 1), rxbuf := s.rxbuf ++ [b], opResult := .noFrame }) ∧
    (s.sc = .overflow → b ≠ 0x7E → exec (.dscan b) s = .next { s with opResult := .noFrame }) ∧
    (s.sc = .overflow → b = 0x7E → exec (.dscan b) s = .next { s with sc := .waitDelimiter, opResult := .noFrame })

/-- R114, R171, R172, R58: scanner reset, arming, cancelling and releasing write these elements and nothing else. The
release primitive is decision D20. -/
def Obligations.ScannerTimerAndReleaseWriteOnlyTheirOwn : Prop :=
  ∀ s : State,
    exec .scannerReset s = .next { s with sc := .waitDelimiter, rxbuf := [] } ∧
    exec .timerArm s = .next { s with tarmed := true } ∧
    exec .timerCancel s = .next { s with tarmed := false } ∧
    exec .chanRelease s = .next { s with chanHeld := false }

/-! ## Collaborator calls -/

/-- R54, R22: `ChanOpen` gets `CFG.channel_id` and `CFG.baud` unchanged; on `Ok` the channel is held. R57: on a whole
count the bytes enter the TX stream; on an error, or a short count, they do not, and a short count counts as an
error. That no byte of a failed write enters the TX stream, and that a count above the length is a success, are the
model's choices (notes/assumptions/7.md). -/
def Obligations.ChannelCallsGiveTheirAnswers : Prop :=
  ∀ (s : State) (a : OpenAnswer) (os : List OpenAnswer) (w : WriteAnswer) (ws : List WriteAnswer) (bs : Bytes),
    (s.openAnswers = a :: os → exec .chanOpen s = .next
      { s with
        openCalls := s.openCalls ++ [(s.cfg.channelId, s.cfg.baud)]
        openAnswers := os
        freeCount := s.freeCount + 1
        chanHeld := if a = .ok then true else s.chanHeld
        opResult := .opened a }) ∧
    (s.writeAnswers = w :: ws → exec (.chanWrite bs) s = .next
      { s with
        txCalls := if w = .count bs.length then s.txCalls ++ [bs] else (match w with
          | .count n => if bs.length ≤ n then s.txCalls ++ [bs] else s.txCalls
          | .error _ => s.txCalls)
        writeAnswers := ws
        freeCount := s.freeCount + 1
        opResult := .written w }) ∧
    (s.writeAnswers = .count bs.length :: ws → s.WriteOk bs ∧ sent bs s =
      { s with txCalls := s.txCalls ++ [bs], writeAnswers := ws, freeCount := s.freeCount + 1 }) ∧
    (∀ n, n < bs.length → s.writeAnswers = .count n :: ws → ∃ e, writeError bs s = some e) ∧
    (∀ e, s.writeAnswers = .error e :: ws → writeError bs s = some e)

/-- R55, R173, R174: in a waiting phase `ChanRead` returns and consumes the channel's next answer, `TimeoutSignal`
only while the timer is armed, an expiry consumes no byte, and a frame leaves nothing behind its last byte. It blocks
until there is an answer: what the host does meanwhile is refused or happens, as R25, R34, R39 and R83 say, and the
read goes on. The block calls it in no other phase. That the host's inputs and the channel's answers stand in one
list is notes/assumptions/3.md; the names of the two stops are the model's (notes/assumptions/11.md). The names of
the two stops are the model's (notes/assumptions/11.md). -/
def Obligations.ChanReadConsumesWhatItReturns : Prop :=
  ∀ (s : State) (b c : Byte) (e : ChanErr) (i : Input) (bs : Bytes) (rest : List Input),
    (s.ph ≠ .closed → s.ph ≠ .idle →
      (s.inbox = .rx b :: rest → exec .chanRead s = .next { s with inbox := rest, opResult := .read (.byte b) }) ∧
      (s.inbox = .frame [b] :: rest → exec .chanRead s = .next { s with inbox := rest, opResult := .read (.byte b) }) ∧
      (s.inbox = .frame (b :: c :: bs) :: rest →
        exec .chanRead s = .next { s with inbox := .frame (c :: bs) :: rest, opResult := .read (.byte b) }) ∧
      (s.inbox = .rxerr e :: rest → exec .chanRead s = .next { s with inbox := rest, opResult := .read (.error e) }) ∧
      (s.inbox = .timeout :: rest → s.tarmed = true →
        exec .chanRead s = .next { s with inbox := rest, opResult := .read .timeoutSignal }) ∧
      (s.inbox = i :: rest →
        i = .frame [] ∨ (∃ code, i = .cmd code) ∨ (∃ w, i = .writeCfg w) ∨ (i = .timeout ∧ s.tarmed = false) →
        exec .chanRead s = exec .chanRead { s with inbox := rest }) ∧
      (s.inbox = .writeTxpay bs :: rest → exec .chanRead s = exec .chanRead { s with inbox := rest, txpay := bs }) ∧
      (s.inbox = .hwReset :: rest →
        exec .chanRead s = exec .hwReset { s with inbox := rest, opResult := .none }) ∧
      (s.inbox = [] → exec .chanRead s = .refused .readBlocks)) ∧
    (s.ph = .closed ∨ s.ph = .idle → exec .chanRead s = .refused .eventNotEnabled)

/-! ## Completion, errors, refusals -/

/-- R181: completion writes the status and, where the result carries them, the length and the packet. R189: the fatal
path disarms, releases, closes and completes, and keeps everything else the failing step wrote (that discarded
elements keep their values is the model's choice, notes/assumptions/8.md). The clean-up is decision D21. -/
def Obligations.CompletionAndFatalPathWriteTheStatus : Prop :=
  ∀ (st : Status) (n : Nat) (p : Bytes) (s : State),
    exec (.complete st .none) s = .next { s with status := st, done := s.done + 1 } ∧
    exec (.complete st (.bytesWritten n)) s = .next { s with status := st, resultLen := n, done := s.done + 1 } ∧
    exec (.complete st (.packet p)) s = .next
      { s with status := st, resultLen := p.length, rxpkt := p, done := s.done + 1 } ∧
    exec (.fatal st) s = .next
      { s with status := st, done := s.done + 1, tarmed := false, chanHeld := false, ph := .closed }

/-- R83, R130: OPEN is taken in `CLOSED` only, SEND, RECEIVE and CLOSE in `IDLE` only; a command issued elsewhere
writes nothing and completes nothing. Refusal is decision D10; that it is a next state with nothing changed is
notes/assumptions/13.md. -/
def Obligations.CommandsElsewhereAreRefused : Prop :=
  ∀ s : State,
    (s.ph ≠ .closed → exec .openCmd s = .next s) ∧
    (s.ph ≠ .idle → exec .sendCmd s = .next s ∧ exec .receiveCmd s = .next s ∧ exec .closeCmd s = .next s)

/-- R141, R161: a channel error ends the session in every waiting phase, with the collaborator's error unchanged. The
clean-up is decision D21; discarded elements keep their values (notes/assumptions/8.md). -/
def Obligations.ReadErrorsAreFatal : Prop :=
  ∀ (e : ChanErr) (s : State),
    let failed := { s with tarmed := false, chanHeld := false, ph := Phase.closed, status := Status.channelError e, done := s.done + 1 }
    (s.ph = .oiWaitUa ∨ s.ph = .orWaitSet ∨ s.ph = .ciWaitDisc ∨ s.ph = .crWaitDisc ∨ s.ph = .crWaitUa →
      exec (.handshakeRxerr e) s = .next failed) ∧
    (s.ph = .txWaitAck ∨ s.ph = .rxFrame → exec (.arqRxerr e) s = .next failed)

/-- R57, R187, R189: in every step that writes, a `ChanWrite` that fails, by an error of the collaborator or by a
short count (decision D19; `ChannelCallsGiveTheirAnswers` says when `writeError` is an error), ends the session with
`ChannelError` and nothing more of the step happens. `RX_FRAME.RX` writes through the steps
`ReceiveClassifiesRunsInOrder` names. The clean-up is decision D21; that no byte of the failed write enters the TX
stream is the model's choice (notes/assumptions/7.md). -/
def Obligations.WriteErrorsAreFatal : Prop :=
  ∀ (e : ChanErr) (s : State),
    let fails (i : Instr) : Prop := ∃ t, exec i s = .next t ∧ FailedWith (.channelError e) s t
    let peerRej := encCtrl (tag s.p s.role.peer) (if s.ns = true then s.p.cRej1 else s.p.cRej0)
    (s.ph = .closed → s.cfg.role = 0 → openAnswer s = .ok →
      writeError (encCtrl s.p.aIni s.p.cSet) (openCalled s) = some e → fails .openCmd) ∧
    (s.ph = .idle → s.role = .initiator → writeError (encCtrl s.p.aIni s.p.cDisc) s = some e → fails .closeCmd) ∧
    (s.ph = .idle → s.txpay.length ≤ s.p.mss →
      writeError (encData s.p (tag s.p s.role) s.ns s.txpay) s = some e → fails .sendCmd) ∧
    (s.tarmed = true → s.retry + 1 < s.maxRetries → writeError s.txbuf s = some e →
      (s.ph = .oiWaitUa → fails .oiWaitUaTimeout) ∧ (s.ph = .ciWaitDisc → fails .ciWaitDiscTimeout) ∧
      (s.ph = .txWaitAck → fails .txWaitAckTimeout) ∧
      (s.ph = .oiWaitUa ∨ s.ph = .ciWaitDisc ∨ s.ph = .txWaitAck → fails .timeout ∧ fails .retryStep)) ∧
    (s.ph = .txWaitAck → s.rejcnt + 1 < s.maxRetries → writeError s.txbuf s = some e →
      fails .txWaitAckRxRej ∧
      (∀ b, s.sc = .reading 4 → s.rxbuf ++ [b] = peerRej → fails (.txWaitAckRxRr b))) ∧
    (s.ph = .rxFrame →
      (writeError (encCtrl (tag s.p s.role) (if s.nr = true then s.p.cRej1 else s.p.cRej0)) s = some e →
        fails .rxFrameC2) ∧
      (writeError (encCtrl (tag s.p s.role) (if s.nr = true then s.p.cRr0 else s.p.cRr1)) s = some e → ∀ pl,
        ∃ t, exec (.rxFrameAccept pl) s = .next t ∧ FailedWith (.channelError e) s t ∧ t.nr = s.nr) ∧
      (writeError (encCtrl (tag s.p s.role) (if s.nr = true then s.p.cRr1 else s.p.cRr0)) s = some e →
        fails .rxFrameDup)) ∧
    (s.ph = .orWaitSet → writeError (encCtrl s.p.aRsp s.p.cUa) s = some e →
      (s.Aligned → fails .set) ∧
      (∀ b, s.sc = .reading 4 → s.rxbuf ++ [b] = encCtrl s.p.aIni s.p.cSet → fails (.orWaitSetRx b))) ∧
    (s.ph = .ciWaitDisc → writeError (encCtrl s.p.aIni s.p.cUa) s = some e →
      (s.Aligned → fails (.disc .responder)) ∧
      (∀ b, s.sc = .reading 4 → s.rxbuf ++ [b] = encCtrl s.p.aRsp s.p.cDisc → fails (.ciWaitDiscRx b))) ∧
    (s.ph = .crWaitDisc → writeError (encCtrl s.p.aRsp s.p.cDisc) s = some e →
      (s.Aligned → fails (.disc .initiator)) ∧
      (∀ b, s.sc = .reading 4 → s.rxbuf ++ [b] = encCtrl s.p.aIni s.p.cDisc → fails (.crWaitDiscRx b)))

/-- R11, R141, R161, R173, R175: a step "in phase P on event E" is enabled in phase P only, an expiry only in a timed
phase and only while `TARMED = 1`, a channel error by the family of its phase. R110: DEC_DATA takes a delimited run
only. Asked for elsewhere, none of them is taken; that the model then stops by name is its own way of saying so
(notes/assumptions/11.md). -/
def Obligations.OperationsStopOutsideTheirDomain : Prop :=
  ∀ (b : Byte) (e : ChanErr) (pl raw : Bytes) (s : State),
    (s.ph ≠ .oiWaitUa → exec (.oiWaitUaRx b) s = .refused .eventNotEnabled) ∧
    (s.ph ≠ .orWaitSet → exec (.orWaitSetRx b) s = .refused .eventNotEnabled) ∧
    (s.ph ≠ .ciWaitDisc → exec (.ciWaitDiscRx b) s = .refused .eventNotEnabled) ∧
    (s.ph ≠ .crWaitDisc → exec (.crWaitDiscRx b) s = .refused .eventNotEnabled) ∧
    (s.ph ≠ .crWaitUa → exec (.crWaitUaRx b) s = .refused .eventNotEnabled) ∧
    (s.ph ≠ .txWaitAck → exec (.txWaitAckRxRr b) s = .refused .eventNotEnabled ∧
      exec .txWaitAckRxRej s = .refused .eventNotEnabled) ∧
    (s.ph ≠ .rxFrame → exec (.rxFrameRx b) s = .refused .eventNotEnabled ∧
      exec (.rxFrameAccept pl) s = .refused .eventNotEnabled ∧ exec .rxFrameDup s = .refused .eventNotEnabled ∧
      exec .rxFrameC1 s = .refused .eventNotEnabled ∧ exec .rxFrameC2 s = .refused .eventNotEnabled) ∧
    (s.ph = .closed ∨ s.ph = .idle → exec (.handshakeRxerr e) s = .refused .eventNotEnabled ∧
      exec (.arqRxerr e) s = .refused .eventNotEnabled ∧ exec .retryStep s = .refused .eventNotEnabled) ∧
    (s.ph ≠ .oiWaitUa → exec .oiWaitUaTimeout s = .refused .eventNotEnabled) ∧
    (s.ph ≠ .ciWaitDisc → exec .ciWaitDiscTimeout s = .refused .eventNotEnabled) ∧
    (s.ph ≠ .txWaitAck → exec .txWaitAckTimeout s = .refused .eventNotEnabled) ∧
    (s.ph ≠ .oiWaitUa → s.ph ≠ .ciWaitDisc → s.ph ≠ .txWaitAck →
      exec .timeout s = .refused .eventNotEnabled ∧ exec .retryStep s = .refused .eventNotEnabled) ∧
    (s.ph = .txWaitAck ∨ s.ph = .rxFrame → exec (.handshakeRxerr e) s = .refused .eventNotEnabled) ∧
    (s.ph = .oiWaitUa ∨ s.ph = .orWaitSet ∨ s.ph = .ciWaitDisc ∨ s.ph = .crWaitDisc ∨ s.ph = .crWaitUa →
      exec (.arqRxerr e) s = .refused .eventNotEnabled) ∧
    (s.tarmed = false → exec .timeout s = .refused .eventNotEnabled ∧
      exec .oiWaitUaTimeout s = .refused .eventNotEnabled ∧ exec .ciWaitDiscTimeout s = .refused .eventNotEnabled ∧
      exec .txWaitAckTimeout s = .refused .eventNotEnabled) ∧
    (raw.length < 6 ∨ raw.head? ≠ some 0x7E ∨ raw.getLast? ≠ some 0x7E ∨ (0x7E : Byte) ∈ raw.tail.dropLast →
      exec (.decData raw) s = .refused .operandIllFormed)

/-! ## OPEN -/

/-- R131: an invalid role completes with `InvalidRole` before the channel is touched; a channel that cannot be opened
completes with its error; both leave every session element as it was. -/
def Obligations.OpenFailsEarlyWithoutASession : Prop :=
  ∀ s : State, s.ph = .closed →
    (s.cfg.role = 2 ∨ s.cfg.role = 3 →
      exec .openCmd s = .next { s with status := .invalidRole, done := s.done + 1 }) ∧
    (∀ e os, s.cfg.role = 0 ∨ s.cfg.role = 1 → s.openAnswers = .error e :: os →
      exec .openCmd s = .next
        { s with
          status := .channelError e
          done := s.done + 1
          openCalls := s.openCalls ++ [(s.cfg.channelId, s.cfg.baud)]
          openAnswers := os
          freeCount := s.freeCount + 1 })

/-- R131, R132, R135, R40: OPEN acquires the channel and resets the session; the Initiator then arms the timer, writes
SET and waits for UA, the Responder waits for SET with no timer and nothing written. -/
def Obligations.OpenStartsByRole : Prop :=
  ∀ (s : State) (os : List OpenAnswer), s.ph = .closed → s.openAnswers = .ok :: os →
    let f := encCtrl s.p.aIni s.p.cSet
    (s.cfg.role = 0 → (openCalled s).WriteOk f → exec .openCmd s = .next
      { s with
        openCalls := s.openCalls ++ [(s.cfg.channelId, s.cfg.baud)]
        openAnswers := os
        writeAnswers := s.writeAnswers.tail
        freeCount := s.freeCount + 2
        txCalls := s.txCalls ++ [f]
        chanHeld := true
        role := .initiator
        ns := false
        nr := false
        retry := 0
        rejcnt := 0
        sc := .waitDelimiter
        rxbuf := []
        txbuf := f
        tarmed := true
        ph := .oiWaitUa }) ∧
    (s.cfg.role = 1 → exec .openCmd s = .next
      { s with
        openCalls := s.openCalls ++ [(s.cfg.channelId, s.cfg.baud)]
        openAnswers := os
        freeCount := s.freeCount + 1
        chanHeld := true
        role := .responder
        ns := false
        nr := false
        retry := 0
        rejcnt := 0
        sc := .waitDelimiter
        rxbuf := []
        txbuf := []
        tarmed := false
        ph := .orWaitSet })

/-! ## Steps of the handshake phases -/

/-- R112, R133, R135, R137, R139, R140, R153: a byte that does not complete an awaited frame only moves the scanner,
to where `CSCAN` with the awaited frames puts it (`ControlScannerCountsFiveBytes` says where that is); the phase, the
timer and everything else stay. A byte on `Matched` or `Overflow`, which no such phase sees, is
notes/assumptions/10.md. -/
def Obligations.UnmatchedBytesOnlyMoveTheScanner : Prop :=
  ∀ (b : Byte) (s : State),
    (∀ i, s.sc = .reading i → i ≤ 4) → (s.sc = .reading 4 → s.rxbuf ++ [b] ∉ s.awaited) →
    let scan := cscanNext b s.awaited s.sc s.rxbuf
    let moved := { s with sc := scan.1, rxbuf := scan.2 }
    exec (.cscan b s.awaited) s = .next { moved with opResult := .noMatch } ∧
    (s.ph = .oiWaitUa → exec (.oiWaitUaRx b) s = .next moved) ∧
    (s.ph = .orWaitSet → exec (.orWaitSetRx b) s = .next moved) ∧
    (s.ph = .ciWaitDisc → exec (.ciWaitDiscRx b) s = .next moved) ∧
    (s.ph = .crWaitDisc → exec (.crWaitDiscRx b) s = .next moved) ∧
    (s.ph = .crWaitUa → exec (.crWaitUaRx b) s = .next moved) ∧
    (s.ph = .txWaitAck → exec (.txWaitAckRxRr b) s = .next moved)

/-- R133: UA matched in `OI_WAIT_UA` completes the Initiator's OPEN. R137: DISC matched in `CI_WAIT_DISC` is answered
with a final UA and completes its CLOSE. That `SC` stays `Matched` with the matched bytes in `RXBUF` is
notes/assumptions/12.md, that discarded elements keep their values while closed is notes/assumptions/8.md. -/
def Obligations.AwaitedFramesCompleteTheInitiator : Prop :=
  ∀ (b : Byte) (s : State), s.sc = .reading 4 →
    (s.ph = .oiWaitUa → s.rxbuf ++ [b] = encCtrl s.p.aRsp s.p.cUa →
      exec (.oiWaitUaRx b) s = .next
        { s with
          sc := .matched
          rxbuf := s.rxbuf ++ [b]
          tarmed := false
          ph := .idle
          status := .ok
          done := s.done + 1 }) ∧
    (s.ph = .ciWaitDisc → s.rxbuf ++ [b] = encCtrl s.p.aRsp s.p.cDisc → s.WriteOk (encCtrl s.p.aIni s.p.cUa) →
      exec (.ciWaitDiscRx b) s = .next
        { sent (encCtrl s.p.aIni s.p.cUa) s with
          sc := .matched
          rxbuf := s.rxbuf ++ [b]
          tarmed := false
          chanHeld := false
          ph := .closed
          status := .ok
          done := s.done + 1 })

/-- R135: SET matched in `OR_WAIT_SET` is answered with UA and completes the Responder's OPEN. R139, R140: DISC
matched in `CR_WAIT_DISC` is answered with DISC; UA matched in `CR_WAIT_UA` completes its CLOSE. That `SC` stays
`Matched` with the matched bytes in `RXBUF` is notes/assumptions/12.md, that discarded elements keep their values
while closed is notes/assumptions/8.md. -/
def Obligations.AwaitedFramesMoveTheResponder : Prop :=
  ∀ (b : Byte) (s : State), s.sc = .reading 4 →
    (s.ph = .orWaitSet → s.rxbuf ++ [b] = encCtrl s.p.aIni s.p.cSet → s.WriteOk (encCtrl s.p.aRsp s.p.cUa) →
      exec (.orWaitSetRx b) s = .next
        { sent (encCtrl s.p.aRsp s.p.cUa) s with
          sc := .matched
          rxbuf := s.rxbuf ++ [b]
          ph := .idle
          status := .ok
          done := s.done + 1 }) ∧
    (s.ph = .crWaitDisc → s.rxbuf ++ [b] = encCtrl s.p.aIni s.p.cDisc → s.WriteOk (encCtrl s.p.aRsp s.p.cDisc) →
      exec (.crWaitDiscRx b) s = .next
        { sent (encCtrl s.p.aRsp s.p.cDisc) s with sc := .waitDelimiter, rxbuf := [], ph := .crWaitUa }) ∧
    (s.ph = .crWaitUa → s.rxbuf ++ [b] = encCtrl s.p.aIni s.p.cUa →
      exec (.crWaitUaRx b) s = .next
        { s with
          sc := .matched
          rxbuf := s.rxbuf ++ [b]
          chanHeld := false
          ph := .closed
          status := .ok
          done := s.done + 1 })

/-- R136, R139: CLOSE clears both counters and the scanner; the Initiator arms, writes DISC and waits for DISC, the
Responder waits for DISC without a timer. That the counters are cleared here is decision D11, the scanner reset
decision D13. -/
def Obligations.CloseStartsByRole : Prop :=
  ∀ s : State, s.ph = .idle →
    let f := encCtrl s.p.aIni s.p.cDisc
    (s.role = .initiator → s.WriteOk f → exec .closeCmd s = .next
      { sent f s with
        retry := 0
        rejcnt := 0
        sc := .waitDelimiter
        rxbuf := []
        txbuf := f
        tarmed := true
        ph := .ciWaitDisc }) ∧
    (s.role = .responder → exec .closeCmd s = .next
      { s with retry := 0, rejcnt := 0, sc := .waitDelimiter, rxbuf := [], ph := .crWaitDisc })

/-! ## The expiry -/

/-- R134, R138, R155, R175: an expiry below the budget counts once, resends the same bytes, resets the scanner and
arms a fresh interval; the event, the shared step and the phase's own step are the same. The bound is decision D12. -/
def Obligations.ExpiryBelowTheBudgetResends : Prop :=
  ∀ s : State, s.tarmed = true → s.retry + 1 < s.maxRetries → s.WriteOk s.txbuf →
    let resent :=
      { sent s.txbuf s with retry := s.retry + 1, tarmed := true, sc := .waitDelimiter, rxbuf := [] }
    (s.ph = .oiWaitUa → exec .oiWaitUaTimeout s = .next resent) ∧
    (s.ph = .ciWaitDisc → exec .ciWaitDiscTimeout s = .next resent) ∧
    (s.ph = .txWaitAck → exec .txWaitAckTimeout s = .next resent) ∧
    (s.ph = .oiWaitUa ∨ s.ph = .ciWaitDisc ∨ s.ph = .txWaitAck →
      exec .timeout s = .next resent ∧ exec .retryStep s = .next resent)

/-- R134, R138, R155, R175: the expiry that brings `RETRY` to `MAX_RETRIES` fails the command without another write:
`ConnectionTimeout` in a handshake, `TransferFailed` in SEND. The bound is decision D12, the clean-up decision D21.
That discarded elements keep their values while closed is notes/assumptions/8.md. -/
def Obligations.ExpiryAtTheBudgetIsFatal : Prop :=
  ∀ s : State, s.tarmed = true → s.maxRetries ≤ s.retry + 1 →
    let failed (st : Status) :=
      { s with
        retry := s.retry + 1
        tarmed := false
        chanHeld := false
        ph := Phase.closed
        status := st
        done := s.done + 1 }
    (s.ph = .oiWaitUa → exec .oiWaitUaTimeout s = .next (failed .connectionTimeout) ∧
      exec .timeout s = .next (failed .connectionTimeout) ∧ exec .retryStep s = .next (failed .connectionTimeout)) ∧
    (s.ph = .ciWaitDisc → exec .ciWaitDiscTimeout s = .next (failed .connectionTimeout) ∧
      exec .timeout s = .next (failed .connectionTimeout) ∧ exec .retryStep s = .next (failed .connectionTimeout)) ∧
    (s.ph = .txWaitAck → exec .txWaitAckTimeout s = .next (failed .transferFailed) ∧
      exec .timeout s = .next (failed .transferFailed) ∧ exec .retryStep s = .next (failed .transferFailed))

/-! ## SEND -/

/-- R150: SEND writes the data frame with the current bit, arms and waits; a payload longer than `MSS` is refused.
That the refusal (decision D8) is a next state with nothing changed is notes/assumptions/13.md. -/
def Obligations.SendWritesOneDataFrame : Prop :=
  ∀ s : State, s.ph = .idle →
    let f := encData s.p (tag s.p s.role) s.ns s.txpay
    (s.txpay.length ≤ s.p.mss → s.WriteOk f → exec .sendCmd s = .next
      { sent f s with
        retry := 0
        rejcnt := 0
        txbuf := f
        tarmed := true
        sc := .waitDelimiter
        rxbuf := []
        ph := .txWaitAck }) ∧
    (s.p.mss < s.txpay.length → exec .sendCmd s = .next s)

/-- R152, R153: the awaited RR carries the peer's address and the next bit; it toggles `NS`, cancels the timer and
completes with the length of the frame. That `SC` stays `Matched` with the matched bytes in `RXBUF` is
notes/assumptions/12.md. -/
def Obligations.AwaitedRrCompletesSend : Prop :=
  ∀ (b : Byte) (s : State),
    s.ph = .txWaitAck → s.sc = .reading 4 →
    s.rxbuf ++ [b] = encCtrl (tag s.p s.role.peer) (if s.ns = true then s.p.cRr0 else s.p.cRr1) →
    exec (.txWaitAckRxRr b) s = .next
      { s with
        sc := .matched
        rxbuf := s.rxbuf ++ [b]
        ns := !s.ns
        tarmed := false
        ph := .idle
        resultLen := s.txbuf.length
        status := .ok
        done := s.done + 1 }

/-- R152, R154: the awaited REJ counts in `REJCNT` alone and resends the same bytes at once, or fails when it brings
the count to `MAX_RETRIES`; `RETRY` and `NS` stay. The address of the template is decision D31, the bound decision
D12. That `SC` stays `Matched` with the matched bytes in `RXBUF` is notes/assumptions/12.md, that discarded elements
keep their values while closed is notes/assumptions/8.md. -/
def Obligations.AwaitedRejResendsAtOnce : Prop :=
  ∀ (b : Byte) (s : State), s.ph = .txWaitAck →
    (s.rejcnt + 1 < s.maxRetries → s.WriteOk s.txbuf →
      let resent :=
        { sent s.txbuf s with rejcnt := s.rejcnt + 1, tarmed := true, sc := .waitDelimiter, rxbuf := [] }
      exec .txWaitAckRxRej s = .next resent ∧
      (s.sc = .reading 4 →
        s.rxbuf ++ [b] = encCtrl (tag s.p s.role.peer) (if s.ns = true then s.p.cRej1 else s.p.cRej0) →
        exec (.txWaitAckRxRr b) s = .next resent)) ∧
    (s.maxRetries ≤ s.rejcnt + 1 →
      let failed :=
        { s with
          rejcnt := s.rejcnt + 1
          tarmed := false
          chanHeld := false
          ph := .closed
          status := .transferFailed
          done := s.done + 1 }
      exec .txWaitAckRxRej s = .next failed ∧
      (s.sc = .reading 4 →
        s.rxbuf ++ [b] = encCtrl (tag s.p s.role.peer) (if s.ns = true then s.p.cRej1 else s.p.cRej0) →
        exec (.txWaitAckRxRr b) s = .next { failed with sc := .matched, rxbuf := s.rxbuf ++ [b] }))

/-! ## RECEIVE -/

/-- R157: a checksum2 mismatch is answered with the REJ of the expected bit; the expected bit and the packet stay. R160:
a checksum1 mismatch is answered with nothing. -/
def Obligations.DamagedFramesCompleteWithFrameCorrupt : Prop :=
  ∀ s : State, s.ph = .rxFrame →
    let f := encCtrl (tag s.p s.role) (if s.nr = true then s.p.cRej1 else s.p.cRej0)
    (s.WriteOk f → exec .rxFrameC2 s = .next
      { sent f s with ph := .idle, status := .frameCorruptChecksum2, done := s.done + 1 }) ∧
    exec .rxFrameC1 s = .next { s with ph := .idle, status := .frameCorruptChecksum1, done := s.done + 1 }

/-- R158: an accepted frame is answered with the RR of the next bit, the expected bit advances, the payload is
delivered. R159: a duplicate is answered with the RR already sent; nothing is delivered and nothing advances. -/
def Obligations.GoodFramesAreAcknowledged : Prop :=
  ∀ (pl : Bytes) (s : State), s.ph = .rxFrame →
    let next := encCtrl (tag s.p s.role) (if s.nr = true then s.p.cRr0 else s.p.cRr1)
    let again := encCtrl (tag s.p s.role) (if s.nr = true then s.p.cRr1 else s.p.cRr0)
    (s.WriteOk next → exec (.rxFrameAccept pl) s = .next
      { sent next s with
        nr := !s.nr
        rxpkt := pl
        resultLen := pl.length
        ph := .idle
        status := .ok
        done := s.done + 1 }) ∧
    (s.WriteOk again → exec .rxFrameDup s = .next
      { sent again s with ph := .idle, status := .dup, done := s.done + 1 })

/-- R113, R156: RECEIVE resets the scanner and waits without a timer; a byte that delimits no run only moves the
scanner, to where `DSCAN` puts it, overflow included (`DataScannerReadsToTheNextDelimiter` says where that is); a
delimited run is classified by checksum1, then by address and control byte, then by checksum2, then by its sequence
bit. A byte on `Matched`, which `RX_FRAME` never sees, is notes/assumptions/10.md. -/
def Obligations.ReceiveClassifiesRunsInOrder : Prop :=
  ∀ (b : Byte) (s : State),
    (s.ph = .idle → exec .receiveCmd s = .next { s with sc := .waitDelimiter, rxbuf := [], ph := .rxFrame }) ∧
    (s.ph = .rxFrame → (∀ i, s.sc = .reading i → b = 0x7E → i + 1 < 6) →
      let scan := dscanNext s.p b s.sc s.rxbuf
      let moved := { s with sc := scan.1, rxbuf := scan.2 }
      exec (.dscan b) s = .next { moved with opResult := .noFrame } ∧ exec (.rxFrameRx b) s = .next moved) ∧
    (∀ i, s.ph = .rxFrame → s.sc = .reading i → 6 ≤ i + 1 →
      let raw := s.rxbuf ++ [0x7E]
      let t := { s with sc := .waitDelimiter, rxbuf := [] }
      let ours (a c : Byte) : Prop := a = tag s.p s.role.peer ∧ (c = s.p.cI0 ∨ c = s.p.cI1)
      (decData raw = .checksum1Mismatch → exec (.rxFrameRx 0x7E) s = exec .rxFrameC1 t) ∧
      (∀ a c, decData raw = .checksum2Mismatch a c → ours a c → exec (.rxFrameRx 0x7E) s = exec .rxFrameC2 t) ∧
      (∀ a c, decData raw = .checksum2Mismatch a c → ¬ ours a c → exec (.rxFrameRx 0x7E) s = .next t) ∧
      (∀ a c pl, decData raw = .data a c pl → ¬ ours a c → exec (.rxFrameRx 0x7E) s = .next t) ∧
      (∀ a c pl, decData raw = .data a c pl → ours a c → c = (if s.nr = true then s.p.cI1 else s.p.cI0) →
        exec (.rxFrameRx 0x7E) s = exec (.rxFrameAccept pl) t) ∧
      (∀ a c pl, decData raw = .data a c pl → ours a c → c ≠ (if s.nr = true then s.p.cI1 else s.p.cI0) →
        exec (.rxFrameRx 0x7E) s = exec .rxFrameDup t))

/-! ## Whole frames -/

/-- R76, R133, R135, R137, R139, R140: a handshake frame delivered whole to an aligned station that waits for it: SET
opens the Responder, UA completes the Initiator's OPEN and the Responder's CLOSE, DISC moves both CLOSEs. A whole
frame in one input is the model's form (notes/assumptions/3.md). That `SC` stays `Matched` with the matched bytes in
`RXBUF` is notes/assumptions/12.md, that discarded elements keep their values while closed is notes/assumptions/8.md.
-/
def Obligations.DeliveredHandshakeFramesMoveTheSession : Prop :=
  ∀ s : State, s.Aligned →
    (s.ph = .orWaitSet → s.WriteOk (encCtrl s.p.aRsp s.p.cUa) → exec .set s = .next
      { sent (encCtrl s.p.aRsp s.p.cUa) s with
        sc := .matched
        rxbuf := encCtrl s.p.aIni s.p.cSet
        ph := .idle
        status := .ok
        done := s.done + 1 }) ∧
    (s.ph = .oiWaitUa → exec (.ua .responder) s = .next
      { s with
        sc := .matched
        rxbuf := encCtrl s.p.aRsp s.p.cUa
        tarmed := false
        ph := .idle
        status := .ok
        done := s.done + 1 }) ∧
    (s.ph = .crWaitUa → exec (.ua .initiator) s = .next
      { s with
        sc := .matched
        rxbuf := encCtrl s.p.aIni s.p.cUa
        chanHeld := false
        ph := .closed
        status := .ok
        done := s.done + 1 }) ∧
    (s.ph = .crWaitDisc → s.WriteOk (encCtrl s.p.aRsp s.p.cDisc) → exec (.disc .initiator) s = .next
      { sent (encCtrl s.p.aRsp s.p.cDisc) s with sc := .waitDelimiter, rxbuf := [], ph := .crWaitUa }) ∧
    (s.ph = .ciWaitDisc → s.WriteOk (encCtrl s.p.aIni s.p.cUa) → exec (.disc .responder) s = .next
      { sent (encCtrl s.p.aIni s.p.cUa) s with
        sc := .matched
        rxbuf := encCtrl s.p.aRsp s.p.cDisc
        tarmed := false
        chanHeld := false
        ph := .closed
        status := .ok
        done := s.done + 1 })

/-- R76, R78, R153, R154: with `NS = 0` a delivered RR(1) of the peer, with `NS = 1` an RR(0), completes SEND; a
REJ(NS) of the peer resends the frame while the REJ budget lasts. A whole frame in one input is the model's form
(notes/assumptions/3.md). That `SC` stays `Matched` with the matched bytes in `RXBUF` is notes/assumptions/12.md. A
REJ at the budget is `AwaitedRejResendsAtOnce`. -/
def Obligations.DeliveredAcknowledgmentsMoveSend : Prop :=
  ∀ s : State, s.ph = .txWaitAck → s.Aligned →
    let acked (c : Byte) :=
      { s with
        sc := .matched
        rxbuf := encCtrl (tag s.p s.role.peer) c
        ns := !s.ns
        tarmed := false
        ph := .idle
        resultLen := s.txbuf.length
        status := .ok
        done := s.done + 1 }
    let resent := { sent s.txbuf s with rejcnt := s.rejcnt + 1, tarmed := true }
    (s.ns = true → exec (.rr0 s.role.peer) s = .next (acked s.p.cRr0)) ∧
    (s.ns = false → exec (.rr1 s.role.peer) s = .next (acked s.p.cRr1)) ∧
    (s.ns = false → s.rejcnt + 1 < s.maxRetries → s.WriteOk s.txbuf →
      exec (.rej0 s.role.peer) s = .next resent) ∧
    (s.ns = true → s.rejcnt + 1 < s.maxRetries → s.WriteOk s.txbuf →
      exec (.rej1 s.role.peer) s = .next resent)

/-- R76, R156, R158, R159: an I(s) of the peer delivered to an aligned RECEIVE whose buffer holds it is accepted when
`s = NR`, payload and all, and acknowledged as a duplicate when `s = 1 - NR`. A whole frame in one input is the
model's form (notes/assumptions/3.md). -/
def Obligations.DeliveredDataFramesReachTheHost : Prop :=
  ∀ (sb : SeqBit) (pl : Bytes) (s : State), s.ph = .rxFrame → s.Aligned →
    s.p.runFits (encData s.p (tag s.p s.role.peer) sb pl).length →
    let i := if sb = true then Instr.i1 s.role.peer pl else Instr.i0 s.role.peer pl
    let rr := encCtrl (tag s.p s.role) (if sb = true then s.p.cRr0 else s.p.cRr1)
    s.WriteOk rr →
    (sb = s.nr → exec i s = .next
      { sent rr s with
        nr := !s.nr
        rxpkt := pl
        resultLen := pl.length
        ph := .idle
        status := .ok
        done := s.done + 1 }) ∧
    (sb ≠ s.nr → exec i s = .next { sent rr s with ph := .idle, status := .dup, done := s.done + 1 })

/-- R80, R81, R113: no reply, no completion and no change comes of a control frame an aligned control-scanner phase
does not wait for, of any control frame in `RX_FRAME`, and of a data frame in `RX_FRAME` that bears the station's own
address or exceeds `RX_CAP` (decision D9). A data frame in a control-scanner phase has no reply and no completion
either, but its closing delimiter stays in the scanner (R112, R220, decision D33). A frame that finds the block not
reading is lost (notes/assumptions/3.md). -/
def Obligations.UnawaitedFramesAreDroppedSilently : Prop :=
  ∀ (i : Instr) (f : Bytes) (s : State), encode s.p i = some (.frame f) →
    (s.ph = .closed ∨ s.ph = .idle → exec i s = .next s) ∧
    (s.Aligned →
      (i.format = .ctrl → s.ph.control = true → f ∉ s.awaited → exec i s = .next s) ∧
      (i.format = .data → s.ph.control = true → exec i s = .next { s with sc := .reading 1, rxbuf := [0x7E] }) ∧
      (i.format = .ctrl → s.ph = .rxFrame → exec i s = .next s) ∧
      (∀ sb pl, s.ph = .rxFrame → f = encData s.p (tag s.p s.role) sb pl → exec i s = .next s) ∧
      (i.format = .data → s.ph = .rxFrame → ¬ s.p.runFits f.length → exec i s = .next s))

/-- R220 (a): in a control-scanner phase a stray `FLAG` leaves an aligned scanner holding it; every control frame after
it is lost and leaves the scanner as it found it. -/
def Obligations.AStrayFlagLosesEveryLaterFrame : Prop :=
  ∀ s : State, s.ph.control = true →
    let slipped := { s with sc := .reading 1, rxbuf := [0x7E] }
    (∀ rest, s.Aligned → step { s with inbox := .rx 0x7E :: rest } = .next { slipped with inbox := rest }) ∧
    (∀ i : Instr, i.format = .ctrl → exec i slipped = .next slipped)

/-! ## Encodings -/

/-- R70 to R77, R83: decoding what the encoder writes gives the operation back, for every operation that has an
encoding and every parameter set of R9. The command codes are decision D5, the addresses decision D3. -/
def Obligations.DecodingUndoesEncoding : Prop :=
  ∀ (p : ParamSet) (i : Instr) (w : Input), p.Wf → encode p i = some w → decode p w = .ok i

/-- R70 to R77, R83: an input decodes to an operation only if it is that operation's encoding, byte for byte. That
the decoder takes only what an encoder writes is the model's reading: a refused frame still reaches the scanners
(notes/assumptions/19.md). -/
def Obligations.OnlyEncodingsDecode : Prop :=
  ∀ (p : ParamSet) (i : Instr) (w : Input), decode p w = .ok i → encode p i = some w

/-- R72, R73, R76, R83: frames written out field by field, for every parameter set of R9, and the four command codes
decode as the spec says. -/
def Obligations.WrittenOutWordsDecode : Prop :=
  (∀ p : ParamSet, p.Wf →
    decode p (.frame [0x7E, p.aIni, p.cSet, p.aIni ^^^ p.cSet, 0x7E]) = .ok .set ∧
    decode p (.frame [0x7E, p.aRsp, p.cUa, p.aRsp ^^^ p.cUa, 0x7E]) = .ok (.ua .responder) ∧
    decode p (.frame [0x7E, p.aIni, p.cDisc, p.aIni ^^^ p.cDisc, 0x7E]) = .ok (.disc .initiator) ∧
    decode p (.frame [0x7E, p.aRsp, p.cRr1, p.aRsp ^^^ p.cRr1, 0x7E]) = .ok (.rr1 .responder) ∧
    decode p (.frame [0x7E, p.aIni, p.cRej0, p.aIni ^^^ p.cRej0, 0x7E]) = .ok (.rej0 .initiator) ∧
    decode p (.frame [0x7E, p.aIni, p.cI0, p.aIni ^^^ p.cI0, 0x48, 0x69, 0x21, 0x7E]) =
      .ok (.i0 .initiator [0x48, 0x69]) ∧
    decode p (.frame [0x7E, p.aRsp, p.cI1, p.aRsp ^^^ p.cI1, 0x7D, 0x5E, 0x7D, 0x5E, 0x7E]) =
      .ok (.i1 .responder [0x7E]) ∧
    decode p (.cmd 0) = .ok .openCmd ∧ decode p (.cmd 1) = .ok .sendCmd ∧ decode p (.cmd 2) = .ok .receiveCmd ∧
    decode p (.cmd 3) = .ok .closeCmd)

/-! ## Steps -/

/-- R11: an input that decodes to an operation is consumed and that operation runs, whatever the state. The list of
inputs is the model's form (notes/assumptions/3.md). -/
def Obligations.AStepRunsTheDecodedOperation : Prop :=
  ∀ (s : State) (e : Input) (rest : List Input) (i : Instr),
    s.inbox = e :: rest → decode s.p e = .ok i → step s = exec i { s with inbox := rest }

/-- R11, R30, R55, R173: an event is consumed and runs the step of the phase it finds; an event the phase does not
enable is lost; with no input no step is enabled (R224). That a byte finding the block not reading is lost where it
is listed is notes/assumptions/3.md. -/
def Obligations.EventsRunThePhasesOwnStep : Prop :=
  ∀ (s : State) (b : Byte) (e : ChanErr) (rest : List Input),
    let t := { s with inbox := rest }
    (s.inbox = [] → step s = .refused .awaitingInput) ∧
    (s.inbox = .rx b :: rest →
      (s.ph = .oiWaitUa → step s = exec (.oiWaitUaRx b) t) ∧
      (s.ph = .orWaitSet → step s = exec (.orWaitSetRx b) t) ∧
      (s.ph = .txWaitAck → step s = exec (.txWaitAckRxRr b) t) ∧
      (s.ph = .rxFrame → step s = exec (.rxFrameRx b) t) ∧
      (s.ph = .ciWaitDisc → step s = exec (.ciWaitDiscRx b) t) ∧
      (s.ph = .crWaitDisc → step s = exec (.crWaitDiscRx b) t) ∧
      (s.ph = .crWaitUa → step s = exec (.crWaitUaRx b) t) ∧
      (s.ph = .closed ∨ s.ph = .idle → step s = .next t)) ∧
    (s.inbox = .timeout :: rest →
      (s.tarmed = true → s.ph = .oiWaitUa ∨ s.ph = .ciWaitDisc ∨ s.ph = .txWaitAck → step s = exec .timeout t) ∧
      (s.tarmed = false → step s = .next t)) ∧
    (s.inbox = .rxerr e :: rest →
      (s.ph = .txWaitAck ∨ s.ph = .rxFrame → step s = exec (.arqRxerr e) t) ∧
      (s.ph = .oiWaitUa ∨ s.ph = .orWaitSet ∨ s.ph = .ciWaitDisc ∨ s.ph = .crWaitDisc ∨ s.ph = .crWaitUa →
        step s = exec (.handshakeRxerr e) t) ∧
      (s.ph = .closed ∨ s.ph = .idle → step s = .next t)) ∧
    (s.inbox = .hwReset :: rest → step s = exec .hwReset t)

/-- R25: the host writes a field of `CFG` only while `PH = CLOSED`; a write at any other time changes nothing
(decision D25); that a refused write is a next state with the input taken is notes/assumptions/13.md. A number that
fits its field (R23, R24) is the field's value; that a wider one keeps its low bits is notes/assumptions/9.md. R150
(corner case): the host may write `TXPAY` at any time, SEND has copied it. -/
def Obligations.ConfigIsWrittenOnlyWhileClosed : Prop :=
  ∀ (s : State) (w : CfgWrite) (bs : Bytes) (rest : List Input),
    (s.inbox = .writeCfg w :: rest → s.ph ≠ .closed → step s = .next { s with inbox := rest }) ∧
    (∀ v, s.inbox = .writeCfg (.role v) :: rest → s.ph = .closed →
      step s = .next { s with inbox := rest, cfg := { s.cfg with role := v } }) ∧
    (∀ v, s.inbox = .writeCfg (.channelId v) :: rest → s.ph = .closed →
      step s = .next { s with inbox := rest, cfg := { s.cfg with channelId := v } }) ∧
    (∀ v, s.inbox = .writeCfg (.baud v) :: rest → s.ph = .closed →
      step s = .next { s with inbox := rest, cfg := { s.cfg with baud := v } }) ∧
    (∀ n, s.inbox = .writeCfg (.timeout n) :: rest → s.ph = .closed →
      step s = .next { s with inbox := rest, cfg := { s.cfg with timeout := n % 2 ^ s.p.wTimeout } }) ∧
    (∀ n, s.inbox = .writeCfg (.maxRetries n) :: rest → s.ph = .closed →
      step s = .next { s with inbox := rest, cfg := { s.cfg with maxRetries := n % 2 ^ s.p.wRetry } }) ∧
    (s.inbox = .writeTxpay bs :: rest → step s = .next { s with inbox := rest, txpay := bs })

/-- R11, R79: a step on a whole frame is the run of the steps on its bytes. A whole frame in one input is the model's
form (notes/assumptions/3.md). -/
def Obligations.AWholeFrameIsItsBytesInOrder : Prop :=
  ∀ (s : State) (f : Bytes) (rest : List Input), s.inbox = .frame f :: rest →
    step s = core.run f.length { s with inbox := f.map .rx ++ rest }

/-! ## Whole-machine rules -/

/-- R41: the invariants hold at reset. The values R39 leaves unspecified are the model's (notes/assumptions/1.md). -/
def Obligations.ResetMeetsTheInvariants : Prop := Inv State.reset

/-- R41: every step keeps the invariants. R41 is marked derived. -/
def Obligations.EveryStepKeepsTheInvariants : Prop :=
  ∀ s t : State, Inv s → step s = .next t → Inv t

/-- R27: `NS` changes only when SEND completes with `OK` (and then it toggles), when the OPEN command starts a
session on an acquired channel (and then it is cleared), or at a hardware reset. -/
def Obligations.SendBitTogglesOncePerAcknowledgedFrame : Prop :=
  ∀ (s t : State) (e : Input) (rest : List Input), s.inbox = e :: rest → step s = .next t → e ≠ .hwReset →
    (t.ns ≠ s.ns → (s.ph = .closed ∧ e = .cmd 0 ∧ openAnswer s = .ok ∧ t.ns = false) ∨
      (s.ph = .txWaitAck ∧ t.ph = .idle ∧ t.status = .ok ∧ t.ns = !s.ns)) ∧
    (s.ph = .txWaitAck → t.ph = .idle → t.ns = !s.ns ∧ t.status = .ok ∧ t.done = s.done + 1)

/-- R28: `NR` changes only when RECEIVE delivers a new frame (and then it toggles), when the OPEN command starts a
session on an acquired channel (and then it is cleared), or at a hardware reset; an error or a duplicate changes
neither `NR` nor the packet. -/
def Obligations.ReceiveBitTogglesOncePerDeliveredFrame : Prop :=
  ∀ (s t : State) (e : Input) (rest : List Input), s.inbox = e :: rest → step s = .next t → e ≠ .hwReset →
    (t.nr ≠ s.nr → (s.ph = .closed ∧ e = .cmd 0 ∧ openAnswer s = .ok ∧ t.nr = false) ∨
      (s.ph = .rxFrame ∧ t.ph = .idle ∧ t.status = .ok ∧ t.nr = !s.nr)) ∧
    (s.ph = .rxFrame → t.ph = .idle → t.status = .ok → t.nr = !s.nr ∧ t.resultLen = t.rxpkt.length) ∧
    (s.ph = .rxFrame → t.ph = .idle → t.status ≠ .ok →
      t.nr = s.nr ∧ t.rxpkt = s.rxpkt ∧ t.resultLen = s.resultLen)

/-- R25, R26, R213: the parameters never change, `CFG` changes only while closed or at a hardware reset, and `ROLE` never
changes while a session lasts. -/
def Obligations.ConfigurationAndRoleLastForTheSession : Prop :=
  ∀ (s t : State) (e : Input) (rest : List Input), s.inbox = e :: rest → step s = .next t →
    t.params = s.params ∧
    (t.cfg ≠ s.cfg → s.ph = .closed ∨ e = .hwReset) ∧
    (s.ph ≠ .closed → t.ph ≠ .closed → t.role = s.role)

/-- R36: "no process-wide state survives across sessions": two closed states that differ only in what the last session
discarded take steps to states that again differ in no more than that. -/
def Obligations.NothingSurvivesFromOneSessionToTheNext : Prop :=
  ∀ (s t : State), SameUpToDiscarded s t →
    (∀ s', step s = .next s' → ∃ t', step t = .next t' ∧ SameUpToDiscarded s' t') ∧
    (∀ r, step s = .refused r → step t = .refused r)

/-- R57, R63: bytes only ever enter the TX stream, at its end, one whole call at a time; an input that is one event makes
at most one call. -/
def Obligations.TheTxStreamOnlyGrows : Prop :=
  ∀ (s t : State) (e : Input) (rest : List Input), s.inbox = e :: rest → step s = .next t →
    ∃ calls : List Bytes, t.txCalls = s.txCalls ++ calls ∧ t.txStream = s.txStream ++ calls.flatten ∧
      ((∀ f, e ≠ .frame f) → calls.length ≤ 1)

/-- R181: a step completes at most one command, and then the block is in `IDLE` or `CLOSED`; a running command that does
not complete leaves the block waiting. -/
def Obligations.EachCommandCompletesOnceOrNever : Prop :=
  ∀ (s t : State) (e : Input) (rest : List Input), s.inbox = e :: rest → step s = .next t → e ≠ .hwReset →
    (t.done = s.done ∨ t.done = s.done + 1) ∧
    (t.done = s.done + 1 → t.ph = .idle ∨ t.ph = .closed) ∧
    (s.ph.waiting = true → t.done = s.done → t.ph.waiting = true)

/-! ## Headline properties -/

/-- R142, R134: a channel that loses the first `K` SET frames and delivers the UA after the next: for `K <
MAX_RETRIES` OPEN completes with `OK` after `K + 1` writes of SET and `K` expiries; after `MAX_RETRIES` expiries it
completes with `ConnectionTimeout`, SET having been written `MAX_RETRIES` times. R142 is marked derived. -/
def Obligations.OpenSurvivesLostSetFrames : Prop :=
  ∀ (s : State) (k : Nat) (os : List OpenAnswer) (ws : List WriteAnswer) (rest : List Input),
    s.ph = .closed → s.cfg.role = 0 → s.openAnswers = .ok :: os → 1 ≤ s.maxRetries →
    s.writeAnswers = List.replicate s.maxRetries (.count 5) ++ ws →
    let setI := encCtrl s.p.aIni s.p.cSet
    (k < s.maxRetries →
      s.inbox = .cmd 0 :: (List.replicate k .timeout ++ .frame (encCtrl s.p.aRsp s.p.cUa) :: rest) →
      ∃ t, core.run (k + 2) s = .next t ∧ t.inbox = rest ∧ t.ph = .idle ∧ t.status = .ok ∧ t.done = s.done + 1 ∧
        t.retry = k ∧ t.tarmed = false ∧ t.chanHeld = true ∧
        t.txCalls = s.txCalls ++ List.replicate (k + 1) setI) ∧
    (s.inbox = .cmd 0 :: (List.replicate s.maxRetries .timeout ++ rest) →
      ∃ t, core.run (s.maxRetries + 1) s = .next t ∧ t.inbox = rest ∧ t.ph = .closed ∧
        t.status = .connectionTimeout ∧ t.done = s.done + 1 ∧ t.chanHeld = false ∧
        t.txCalls = s.txCalls ++ List.replicate s.maxRetries setI)

/-- R162 item 1, R155 (spec/95_test_vectors.md L2, H5): a channel that loses or corrupts the first `K`
acknowledgments and delivers the next: for `K < MAX_RETRIES` SEND completes with `OK`, the frame written `K + 1`
times, byte for byte the same, and `NS` toggled once; after `MAX_RETRIES` expiries it completes with
`TransferFailed`. A corrupted acknowledgment is five bytes that begin with `FLAG` and are neither awaited frame. R162
is marked derived. -/
def Obligations.SendSurvivesLostAcknowledgments : Prop :=
  ∀ (s : State) (acks : List (Option Bytes)) (ws : List WriteAnswer) (rest : List Input),
    let f := encData s.p (tag s.p s.role) s.ns s.txpay
    let rr := encCtrl (tag s.p s.role.peer) (cRr s.p (!s.ns))
    let rej := encCtrl (tag s.p s.role.peer) (cRej s.p s.ns)
    let failures := acks.flatMap fun a => (a.map Input.frame).toList ++ [Input.timeout]
    (∀ a ∈ acks, ∀ g, a = some g → g.length = 5 ∧ g.head? = some 0x7E ∧ g ≠ rr ∧ g ≠ rej) →
    s.ph = .idle → s.txpay.length ≤ s.p.mss → 1 ≤ s.maxRetries →
    s.writeAnswers = List.replicate s.maxRetries (.count f.length) ++ ws →
    (acks.length < s.maxRetries → s.inbox = .cmd 1 :: (failures ++ .frame rr :: rest) →
      ∃ t, core.run (failures.length + 2) s = .next t ∧ t.inbox = rest ∧ t.ph = .idle ∧ t.status = .ok ∧
        t.done = s.done + 1 ∧ t.ns = (!s.ns) ∧ t.retry = acks.length ∧ t.rejcnt = 0 ∧ t.resultLen = f.length ∧
        t.tarmed = false ∧ t.txCalls = s.txCalls ++ List.replicate (acks.length + 1) f) ∧
    (acks.length = s.maxRetries → s.inbox = .cmd 1 :: (failures ++ rest) →
      ∃ t, core.run (failures.length + 1) s = .next t ∧ t.inbox = rest ∧ t.ph = .closed ∧
        t.status = .transferFailed ∧ t.done = s.done + 1 ∧ t.ns = s.ns ∧ t.chanHeld = false ∧
        t.txCalls = s.txCalls ++ List.replicate s.maxRetries f)

/-- R162 item 2, R159: a frame delivered, and the same frame replayed to the next RECEIVE: the same RR is written
again, no second payload is returned, the expected bit advances once. R162 is marked derived; the status DUP is
decision D17. -/
def Obligations.AReplayedFrameIsDeliveredOnce : Prop :=
  ∀ (s : State) (pl : Bytes) (ws : List WriteAnswer) (rest : List Input),
    let f := encData s.p (tag s.p s.role.peer) s.nr pl
    let rr := encCtrl (tag s.p s.role) (cRr s.p (!s.nr))
    s.ph = .idle → s.p.runFits f.length → s.writeAnswers = .count 5 :: .count 5 :: ws →
    s.inbox = .cmd 2 :: .frame f :: .cmd 2 :: .frame f :: rest →
    (∃ t, core.run 2 s = .next t ∧ t.ph = .idle ∧ t.status = .ok ∧ t.rxpkt = pl ∧ t.resultLen = pl.length ∧
      t.nr = (!s.nr) ∧ t.txCalls = s.txCalls ++ [rr] ∧ t.done = s.done + 1) ∧
    (∃ t, core.run 4 s = .next t ∧ t.ph = .idle ∧ t.status = .dup ∧ t.rxpkt = pl ∧ t.resultLen = pl.length ∧
      t.nr = (!s.nr) ∧ t.txCalls = s.txCalls ++ [rr, rr] ∧ t.done = s.done + 2 ∧ t.inbox = rest)
end

