-- ==== Sys2Proof/Laws/Codec.lean ====
section
/-! SUPPORT. Lemmas of the Frame Codec: checksums, stuffing, destuffing, and what a well-formed parameter set says about
header bytes. -/

namespace Sys2Proof

/-! ## Constants -/

theorem flag_ne_esc : FLAG ≠ ESC := by decide
theorem esc_ne_flag : ESC ≠ FLAG := by decide

/-- `ESC_FLAG` and `ESC_ESC` are the substitutes of the two escaped bytes (R7). -/
theorem escape_substitutes : FLAG ^^^ STUFF_XOR = ESC_FLAG ∧ ESC ^^^ STUFF_XOR = ESC_ESC := by decide

/-! ## Checksums -/

theorem bcc2_append (p : Bytes) (b : Byte) : bcc2 (p ++ [b]) = bcc2 p ^^^ b := by simp [bcc2]

theorem foldl_xor_eq (p : Bytes) (x : Byte) :
    p.foldl (fun acc b => acc ^^^ b) x = x ^^^ p.foldr (fun b acc => b ^^^ acc) 0 := by
  induction p generalizing x with
  | nil => simp
  | cons b p ih => simp [ih, BitVec.xor_assoc]

/-- Checksum2 folded from the right: the order does not matter (R74, R115). -/
theorem bcc2_eq_foldr (p : Bytes) : bcc2 p = p.foldr (fun b acc => b ^^^ acc) 0 := by
  simp [bcc2, foldl_xor_eq]

/-- `(x xor 0x20) xor 0x20 = x` (R115). -/
@[simp] theorem xor_stuffXor_twice (b : Byte) : (b ^^^ STUFF_XOR) ^^^ STUFF_XOR = b := by
  rw [BitVec.xor_assoc, BitVec.xor_self, BitVec.xor_zero]

/-! ## Stuffing -/

@[simp] theorem needsEscape_eq_true (b : Byte) : needsEscape b = true ↔ b = FLAG ∨ b = ESC := by
  simp [needsEscape]

@[simp] theorem stuff_nil : stuff [] = [] := rfl

theorem stuff_cons (b : Byte) (bs : Bytes) :
    stuff (b :: bs) = (if b = FLAG ∨ b = ESC then [ESC, b ^^^ STUFF_XOR] else [b]) ++ stuff bs := by
  by_cases h : b = FLAG ∨ b = ESC <;> simp [stuff, h]

theorem stuff_eq_flatMap (bs : Bytes) :
    stuff bs = bs.flatMap fun b => if b = FLAG ∨ b = ESC then [ESC, b ^^^ STUFF_XOR] else [b] := by
  induction bs with
  | nil => rfl
  | cons b bs ih => rw [stuff_cons, ih, List.flatMap_cons]

/-- R103 (c). -/
theorem stuff_append (p q : Bytes) : stuff (p ++ q) = stuff p ++ stuff q := by
  simp [stuff_eq_flatMap]

theorem length_stuff_bounds (p : Bytes) : p.length ≤ (stuff p).length ∧ (stuff p).length ≤ 2 * p.length := by
  induction p with
  | nil => simp
  | cons b p ih => rw [stuff_cons]; split <;> simp <;> omega

/-- No delimiter survives stuffing (R103 (b)). -/
theorem flag_not_mem_stuff (p : Bytes) : FLAG ∉ stuff p := by
  induction p with
  | nil => simp
  | cons b p ih =>
    rw [stuff_cons, List.mem_append]
    rintro (h | h)
    · split at h
      · rename_i hb; rcases hb with rfl | rfl <;> revert h <;> decide
      · rename_i hb; exact hb (.inl (List.mem_singleton.1 h).symm)
    · exact ih h

/-! ## Destuffing -/

@[simp] theorem destuff_nil : destuff [] = some [] := rfl
@[simp] theorem destuff_esc : destuff [ESC] = none := rfl
@[simp] theorem destuff_esc_cons (x : Byte) (r : Bytes) :
    destuff (ESC :: x :: r) = (destuff r).map ((x ^^^ STUFF_XOR) :: ·) := rfl

theorem destuff_cons_ne (b : Byte) (r : Bytes) (h : b ≠ ESC) : destuff (b :: r) = (destuff r).map (b :: ·) := by
  cases r with
  | nil => simp [destuff, h]
  | cons x r => simp [destuff, h]

theorem length_destuff_le (r : Bytes) : ∀ d, destuff r = some d → d.length ≤ r.length := by
  induction r using destuff.induct with
  | case1 => simp
  | case2 => simp [destuff]
  | case3 b hb => intro d h; simp [destuff, hb] at h; subst h; simp
  | case4 x r ih =>
    intro d h
    obtain ⟨d', h', rfl⟩ := Option.map_eq_some_iff.1 (by simpa using h)
    have := ih d' h'; simp; omega
  | case5 b x r hb ih =>
    intro d h
    rw [destuff_cons_ne _ _ hb] at h
    obtain ⟨d', h', rfl⟩ := Option.map_eq_some_iff.1 h
    have := ih d' h'; simp at this ⊢; omega

/-- Destuffing passes through a stuffed prefix (R103 (a), (c)). -/
theorem destuff_stuff_append (p r : Bytes) : destuff (stuff p ++ r) = (destuff r).map (p ++ ·) := by
  induction p with
  | nil => simp
  | cons b p ih =>
    rw [stuff_cons]
    split
    · simp [ih, Function.comp_def]
    · rename_i hb
      rw [List.append_assoc, List.singleton_append, destuff_cons_ne _ _ (fun h => hb (.inr h)), ih]
      simp [Function.comp_def]

@[simp] theorem destuff_stuff (p : Bytes) : destuff (stuff p) = some p := by
  simpa using destuff_stuff_append p []

theorem stuff_injective (p q : Bytes) (h : stuff p = stuff q) : p = q := by
  have := congrArg destuff h; simpa using this

/-- A region destuffs to nothing only when it is empty (R110, corner case 2). -/
theorem destuff_ne_nil (r : Bytes) (h : r ≠ []) : destuff r ≠ some [] := by
  match r with
  | [] => exact absurd rfl h
  | [b] => simp only [destuff]; split <;> simp
  | b :: x :: r => simp only [destuff]; split <;> simp

/-! ## Frames -/

/-- What stands between the header and the closing delimiter of a data frame (R73). -/
theorem encData_eq (p : ParamSet) (a : Byte) (s : SeqBit) (pl : Bytes) :
    encData p a s pl = FLAG :: a :: cI p s :: bcc1 a (cI p s) :: (stuff (pl ++ [bcc2 pl]) ++ [FLAG]) := by
  simp [encData, dataHeader, stuffedBcc2, stuff_append]

theorem length_encData (p : ParamSet) (a : Byte) (s : SeqBit) (pl : Bytes) :
    6 + pl.length ≤ (encData p a s pl).length ∧ (encData p a s pl).length ≤ 2 * pl.length + 7 := by
  have h1 := length_stuff_bounds pl
  have h2 := length_stuff_bounds [bcc2 pl]
  simp [encData_eq, stuff_append] at *
  omega

theorem checkRegion_append (a c : Byte) (d : Bytes) (b2 : Byte) :
    checkRegion a c (d ++ [b2]) = if bcc2 d = b2 then .data a c d else .checksum2Mismatch a c := by
  simp [checkRegion]

/-- `DEC_DATA` on header, region and delimiter (R110). -/
theorem decData_run (f a c b1 : Byte) (region : Bytes) :
    decData (f :: a :: c :: b1 :: (region ++ [FLAG])) =
      if b1 = bcc1 a c then
        (match destuff region with
          | none => .checksum2Mismatch a c
          | some d => checkRegion a c d)
      else .checksum1Mismatch := by
  simp [decData] <;> rfl

/-- Decoding gives back what was encoded. -/
theorem decData_encData (p : ParamSet) (a : Byte) (s : SeqBit) (pl : Bytes) :
    decData (encData p a s pl) = .data a (cI p s) pl := by
  rw [encData_eq, decData_run]; simp [checkRegion_append]

/-- A payload is at least six bytes shorter than the run that carried it (R53). -/
theorem decData_data_length (raw : Bytes) (a c : Byte) (pl : Bytes) (h : decData raw = .data a c pl) :
    pl.length + 6 ≤ raw.length ∨ pl = [] := by
  match raw with
  | [] | [_] | [_, _] | [_, _, _] => simp [decData] at h
  | f :: a' :: c' :: b1 :: rest =>
    simp only [decData] at h
    split at h
    · split at h
      · cases h
      · rename_i d hd
        have hlen := length_destuff_le _ d hd
        simp only [checkRegion] at h
        split at h
        · cases h
        · split at h
          · cases h
            simp at hlen ⊢
            by_cases h0 : d.length ≤ 1
            · right; apply List.eq_nil_of_length_eq_zero; simp; omega
            · left; omega
          · cases h
    · cases h

/-! ## Parameters (R9) -/

theorem tag_mem_addresses (p : ParamSet) (r : Role) : tag p r ∈ p.addresses := by
  cases r <;> simp [tag, ParamSet.addresses]

theorem address_ne_flag (p : ParamSet) (h : p.Wf) (a : Byte) (ha : a ∈ p.addresses) : a ≠ FLAG :=
  h.2.2.1 a (by simp [ParamSet.headerBytes, ha])

theorem control_ne_flag (p : ParamSet) (h : p.Wf) (c : Byte) (hc : c ∈ p.controls) : c ≠ FLAG :=
  h.2.2.1 c (by simp [ParamSet.headerBytes, hc])

theorem checksum1_ne_flag (p : ParamSet) (h : p.Wf) (a c : Byte) (ha : a ∈ p.addresses) (hc : c ∈ p.controls) :
    bcc1 a c ≠ FLAG :=
  h.2.2.1 _ (by simp only [ParamSet.headerBytes, List.mem_append, List.mem_flatMap, List.mem_map]; right
                exact ⟨a, ha, c, hc, rfl⟩)

theorem cI_mem_controls (p : ParamSet) (s : SeqBit) : cI p s ∈ p.controls := by
  cases s <;> simp [cI, ParamSet.controls]

theorem cRr_mem_controls (p : ParamSet) (s : SeqBit) : cRr p s ∈ p.controls := by
  cases s <;> simp [cRr, ParamSet.controls]

theorem cRej_mem_controls (p : ParamSet) (s : SeqBit) : cRej p s ∈ p.controls := by
  cases s <;> simp [cRej, ParamSet.controls]

/-- The nine codes are told apart, each from each (R9 (b)). -/
theorem controls_distinct (p : ParamSet) (h : p.Wf) :
    p.cSet ≠ p.cUa ∧ p.cSet ≠ p.cDisc ∧ p.cSet ≠ p.cI0 ∧ p.cSet ≠ p.cI1 ∧ p.cSet ≠ p.cRr0 ∧ p.cSet ≠ p.cRr1 ∧
    p.cSet ≠ p.cRej0 ∧ p.cSet ≠ p.cRej1 ∧
    p.cUa ≠ p.cDisc ∧ p.cUa ≠ p.cI0 ∧ p.cUa ≠ p.cI1 ∧ p.cUa ≠ p.cRr0 ∧ p.cUa ≠ p.cRr1 ∧ p.cUa ≠ p.cRej0 ∧
    p.cUa ≠ p.cRej1 ∧
    p.cDisc ≠ p.cI0 ∧ p.cDisc ≠ p.cI1 ∧ p.cDisc ≠ p.cRr0 ∧ p.cDisc ≠ p.cRr1 ∧ p.cDisc ≠ p.cRej0 ∧
    p.cDisc ≠ p.cRej1 ∧
    p.cI0 ≠ p.cI1 ∧ p.cI0 ≠ p.cRr0 ∧ p.cI0 ≠ p.cRr1 ∧ p.cI0 ≠ p.cRej0 ∧ p.cI0 ≠ p.cRej1 ∧
    p.cI1 ≠ p.cRr0 ∧ p.cI1 ≠ p.cRr1 ∧ p.cI1 ≠ p.cRej0 ∧ p.cI1 ≠ p.cRej1 ∧
    p.cRr0 ≠ p.cRr1 ∧ p.cRr0 ≠ p.cRej0 ∧ p.cRr0 ≠ p.cRej1 ∧ p.cRr1 ≠ p.cRej0 ∧ p.cRr1 ≠ p.cRej1 ∧
    p.cRej0 ≠ p.cRej1 := by
  have := h.2.1
  simp only [ParamSet.controls, List.nodup_cons, List.mem_cons, List.not_mem_nil, not_or] at this
  tauto

/-- No RR code is a REJ code, so the two templates of SEND differ (R9 (b), R152). -/
theorem cRr_ne_cRej (p : ParamSet) (h : p.Wf) (a b : SeqBit) : cRr p a ≠ cRej p b := by
  have := controls_distinct p h
  cases a <;> cases b <;> simp [cRr, cRej] <;> tauto

@[simp] theorem roleOfTag_tag (p : ParamSet) (h : p.Wf) (r : Role) : roleOfTag p (tag p r) = some r := by
  cases r
  · simp [roleOfTag, tag]
  · simp [roleOfTag, tag, h.1.symm]

@[simp] theorem seqOfCode_cI (p : ParamSet) (h : p.Wf) (s : SeqBit) : seqOfCode p (cI p s) = some s := by
  have h' : p.cI1 ≠ p.cI0 := fun e => by have := controls_distinct p h; tauto
  cases s <;> simp [seqOfCode, cI, h']

theorem roleOfTag_eq_some (p : ParamSet) (a : Byte) (r : Role) (h : roleOfTag p a = some r) : a = tag p r := by
  unfold roleOfTag at h
  split at h
  · cases h; simpa [tag]
  · split at h
    · cases h; simpa [tag]
    · cases h

theorem seqOfCode_eq_some (p : ParamSet) (c : Byte) (s : SeqBit) (h : seqOfCode p c = some s) : c = cI p s := by
  unfold seqOfCode at h
  split at h
  · cases h; simpa [cI]
  · split at h
    · cases h; simpa [cI]
    · cases h

/-- The two roles have different addresses (R9 (a)). -/
theorem tag_peer_ne (p : ParamSet) (h : p.Wf) (r : Role) : tag p r.peer ≠ tag p r := by
  cases r
  · simpa [tag, Role.peer] using h.1.symm
  · simpa [tag, Role.peer] using h.1

end Sys2Proof
end

