-- ==== Sys2Proof/Laws/Decode.lean ====
section
/-! SUPPORT. What the decoder reads from a header and from a stuffed region (spec/30_encoding.md R70 to R77). -/

namespace Sys2Proof

/-- A control frame of a role's address is decided by its control byte alone. -/
theorem decodeFrame_encCtrl (p : ParamSet) (hp : p.Wf) (r : Role) (c : Byte) :
    decodeFrame p (encCtrl (tag p r) c) = decodeCtrl p r c := by
  simp [encCtrl, decodeFrame, roleOfTag_tag p hp]

/-- The stuffed region of a data frame decodes to its payload. -/
theorem decodeDataRest_stuffed (r : Role) (s : SeqBit) (pl : Bytes) :
    decodeDataRest r s (stuff pl ++ stuffedBcc2 pl ++ [FLAG]) = .ok (dataInstr r s pl) := by
  unfold decodeDataRest
  simp only [List.getLast?_concat, if_true, List.dropLast_concat]
  rw [show stuff pl ++ stuffedBcc2 pl = stuff (pl ++ [bcc2 pl]) by rw [stuff_append]; rfl, destuff_stuff]
  simp [stuff_append, stuffedBcc2]

/-- What follows the header decodes only if an encoder wrote it. -/
theorem decodeDataRest_eq_ok (r : Role) (s : SeqBit) (rest : Bytes) (i : Instr) (h : decodeDataRest r s rest = .ok i) :
    ∃ pl, i = dataInstr r s pl ∧ rest = stuff pl ++ stuffedBcc2 pl ++ [FLAG] := by
  unfold decodeDataRest at h
  repeat (split at h <;> try (cases h; done))
  cases h
  exact ⟨_, rfl, Eq.symm ‹_›⟩

/-- A frame decodes only if an encoder wrote it. -/
theorem decodeFrame_eq_ok (p : ParamSet) (bs : Bytes) (i : Instr) (h : decodeFrame p bs = .ok i) :
    encode p i = some (.frame bs) := by
  unfold decodeFrame at h
  split at h <;> try cases h
  split at h <;> try cases h
  rename_i hf
  split at h <;> try cases h
  rename_i r hr
  have ha := roleOfTag_eq_some p _ _ hr
  split at h <;> try cases h
  rename_i hb
  subst hf hb ha
  split at h
  · rename_i hrest
    subst hrest
    unfold decodeCtrl at h
    repeat' (split at h)
    all_goals first | (cases h; done) | (cases h; subst_vars; rfl)
  · split at h <;> try cases h
    rename_i s hs
    have hc := seqOfCode_eq_some p _ _ hs
    subst hc
    obtain ⟨pl, rfl, rfl⟩ := decodeDataRest_eq_ok _ _ _ _ h
    cases s <;> rfl

end Sys2Proof
end

