-- ==== Sys2Proof/Laws/State.lean ====
section
/-! SUPPORT. What each named update of the state does to each field: one lemma a field, true by rfl. Later proofs rewrite
with these and unfold no record update. -/

namespace Sys2Proof.Machine

open Sys2Proof

section
variable (s : State)

@[simp] theorem timerArm_params : (timerArm s).params = s.params := rfl
@[simp] theorem timerArm_p : (timerArm s).p = s.p := rfl
@[simp] theorem timerArm_cfg : (timerArm s).cfg = s.cfg := rfl
@[simp] theorem timerArm_maxRetries : (timerArm s).maxRetries = s.maxRetries := rfl
@[simp] theorem timerArm_role : (timerArm s).role = s.role := rfl
@[simp] theorem timerArm_ns : (timerArm s).ns = s.ns := rfl
@[simp] theorem timerArm_nr : (timerArm s).nr = s.nr := rfl
@[simp] theorem timerArm_retry : (timerArm s).retry = s.retry := rfl
@[simp] theorem timerArm_rejcnt : (timerArm s).rejcnt = s.rejcnt := rfl
@[simp] theorem timerArm_tarmed : (timerArm s).tarmed = true := rfl
@[simp] theorem timerArm_ph : (timerArm s).ph = s.ph := rfl
@[simp] theorem timerArm_sc : (timerArm s).sc = s.sc := rfl
@[simp] theorem timerArm_rxbuf : (timerArm s).rxbuf = s.rxbuf := rfl
@[simp] theorem timerArm_txbuf : (timerArm s).txbuf = s.txbuf := rfl
@[simp] theorem timerArm_chanHeld : (timerArm s).chanHeld = s.chanHeld := rfl
@[simp] theorem timerArm_txpay : (timerArm s).txpay = s.txpay := rfl
@[simp] theorem timerArm_rxpkt : (timerArm s).rxpkt = s.rxpkt := rfl
@[simp] theorem timerArm_status : (timerArm s).status = s.status := rfl
@[simp] theorem timerArm_resultLen : (timerArm s).resultLen = s.resultLen := rfl
@[simp] theorem timerArm_opResult : (timerArm s).opResult = s.opResult := rfl
@[simp] theorem timerArm_done : (timerArm s).done = s.done := rfl
@[simp] theorem timerArm_txCalls : (timerArm s).txCalls = s.txCalls := rfl
@[simp] theorem timerArm_openCalls : (timerArm s).openCalls = s.openCalls := rfl
@[simp] theorem timerArm_inbox : (timerArm s).inbox = s.inbox := rfl
@[simp] theorem timerArm_openAnswers : (timerArm s).openAnswers = s.openAnswers := rfl
@[simp] theorem timerArm_writeAnswers : (timerArm s).writeAnswers = s.writeAnswers := rfl
@[simp] theorem timerArm_freeCount : (timerArm s).freeCount = s.freeCount := rfl
end

section
variable (s : State)

@[simp] theorem timerCancel_params : (timerCancel s).params = s.params := rfl
@[simp] theorem timerCancel_p : (timerCancel s).p = s.p := rfl
@[simp] theorem timerCancel_cfg : (timerCancel s).cfg = s.cfg := rfl
@[simp] theorem timerCancel_maxRetries : (timerCancel s).maxRetries = s.maxRetries := rfl
@[simp] theorem timerCancel_role : (timerCancel s).role = s.role := rfl
@[simp] theorem timerCancel_ns : (timerCancel s).ns = s.ns := rfl
@[simp] theorem timerCancel_nr : (timerCancel s).nr = s.nr := rfl
@[simp] theorem timerCancel_retry : (timerCancel s).retry = s.retry := rfl
@[simp] theorem timerCancel_rejcnt : (timerCancel s).rejcnt = s.rejcnt := rfl
@[simp] theorem timerCancel_tarmed : (timerCancel s).tarmed = false := rfl
@[simp] theorem timerCancel_ph : (timerCancel s).ph = s.ph := rfl
@[simp] theorem timerCancel_sc : (timerCancel s).sc = s.sc := rfl
@[simp] theorem timerCancel_rxbuf : (timerCancel s).rxbuf = s.rxbuf := rfl
@[simp] theorem timerCancel_txbuf : (timerCancel s).txbuf = s.txbuf := rfl
@[simp] theorem timerCancel_chanHeld : (timerCancel s).chanHeld = s.chanHeld := rfl
@[simp] theorem timerCancel_txpay : (timerCancel s).txpay = s.txpay := rfl
@[simp] theorem timerCancel_rxpkt : (timerCancel s).rxpkt = s.rxpkt := rfl
@[simp] theorem timerCancel_status : (timerCancel s).status = s.status := rfl
@[simp] theorem timerCancel_resultLen : (timerCancel s).resultLen = s.resultLen := rfl
@[simp] theorem timerCancel_opResult : (timerCancel s).opResult = s.opResult := rfl
@[simp] theorem timerCancel_done : (timerCancel s).done = s.done := rfl
@[simp] theorem timerCancel_txCalls : (timerCancel s).txCalls = s.txCalls := rfl
@[simp] theorem timerCancel_openCalls : (timerCancel s).openCalls = s.openCalls := rfl
@[simp] theorem timerCancel_inbox : (timerCancel s).inbox = s.inbox := rfl
@[simp] theorem timerCancel_openAnswers : (timerCancel s).openAnswers = s.openAnswers := rfl
@[simp] theorem timerCancel_writeAnswers : (timerCancel s).writeAnswers = s.writeAnswers := rfl
@[simp] theorem timerCancel_freeCount : (timerCancel s).freeCount = s.freeCount := rfl
end

section
variable (s : State)

@[simp] theorem chanHold_params : (chanHold s).params = s.params := rfl
@[simp] theorem chanHold_p : (chanHold s).p = s.p := rfl
@[simp] theorem chanHold_cfg : (chanHold s).cfg = s.cfg := rfl
@[simp] theorem chanHold_maxRetries : (chanHold s).maxRetries = s.maxRetries := rfl
@[simp] theorem chanHold_role : (chanHold s).role = s.role := rfl
@[simp] theorem chanHold_ns : (chanHold s).ns = s.ns := rfl
@[simp] theorem chanHold_nr : (chanHold s).nr = s.nr := rfl
@[simp] theorem chanHold_retry : (chanHold s).retry = s.retry := rfl
@[simp] theorem chanHold_rejcnt : (chanHold s).rejcnt = s.rejcnt := rfl
@[simp] theorem chanHold_tarmed : (chanHold s).tarmed = s.tarmed := rfl
@[simp] theorem chanHold_ph : (chanHold s).ph = s.ph := rfl
@[simp] theorem chanHold_sc : (chanHold s).sc = s.sc := rfl
@[simp] theorem chanHold_rxbuf : (chanHold s).rxbuf = s.rxbuf := rfl
@[simp] theorem chanHold_txbuf : (chanHold s).txbuf = s.txbuf := rfl
@[simp] theorem chanHold_chanHeld : (chanHold s).chanHeld = true := rfl
@[simp] theorem chanHold_txpay : (chanHold s).txpay = s.txpay := rfl
@[simp] theorem chanHold_rxpkt : (chanHold s).rxpkt = s.rxpkt := rfl
@[simp] theorem chanHold_status : (chanHold s).status = s.status := rfl
@[simp] theorem chanHold_resultLen : (chanHold s).resultLen = s.resultLen := rfl
@[simp] theorem chanHold_opResult : (chanHold s).opResult = s.opResult := rfl
@[simp] theorem chanHold_done : (chanHold s).done = s.done := rfl
@[simp] theorem chanHold_txCalls : (chanHold s).txCalls = s.txCalls := rfl
@[simp] theorem chanHold_openCalls : (chanHold s).openCalls = s.openCalls := rfl
@[simp] theorem chanHold_inbox : (chanHold s).inbox = s.inbox := rfl
@[simp] theorem chanHold_openAnswers : (chanHold s).openAnswers = s.openAnswers := rfl
@[simp] theorem chanHold_writeAnswers : (chanHold s).writeAnswers = s.writeAnswers := rfl
@[simp] theorem chanHold_freeCount : (chanHold s).freeCount = s.freeCount := rfl
end

section
variable (s : State)

@[simp] theorem chanRelease_params : (chanRelease s).params = s.params := rfl
@[simp] theorem chanRelease_p : (chanRelease s).p = s.p := rfl
@[simp] theorem chanRelease_cfg : (chanRelease s).cfg = s.cfg := rfl
@[simp] theorem chanRelease_maxRetries : (chanRelease s).maxRetries = s.maxRetries := rfl
@[simp] theorem chanRelease_role : (chanRelease s).role = s.role := rfl
@[simp] theorem chanRelease_ns : (chanRelease s).ns = s.ns := rfl
@[simp] theorem chanRelease_nr : (chanRelease s).nr = s.nr := rfl
@[simp] theorem chanRelease_retry : (chanRelease s).retry = s.retry := rfl
@[simp] theorem chanRelease_rejcnt : (chanRelease s).rejcnt = s.rejcnt := rfl
@[simp] theorem chanRelease_tarmed : (chanRelease s).tarmed = s.tarmed := rfl
@[simp] theorem chanRelease_ph : (chanRelease s).ph = s.ph := rfl
@[simp] theorem chanRelease_sc : (chanRelease s).sc = s.sc := rfl
@[simp] theorem chanRelease_rxbuf : (chanRelease s).rxbuf = s.rxbuf := rfl
@[simp] theorem chanRelease_txbuf : (chanRelease s).txbuf = s.txbuf := rfl
@[simp] theorem chanRelease_chanHeld : (chanRelease s).chanHeld = false := rfl
@[simp] theorem chanRelease_txpay : (chanRelease s).txpay = s.txpay := rfl
@[simp] theorem chanRelease_rxpkt : (chanRelease s).rxpkt = s.rxpkt := rfl
@[simp] theorem chanRelease_status : (chanRelease s).status = s.status := rfl
@[simp] theorem chanRelease_resultLen : (chanRelease s).resultLen = s.resultLen := rfl
@[simp] theorem chanRelease_opResult : (chanRelease s).opResult = s.opResult := rfl
@[simp] theorem chanRelease_done : (chanRelease s).done = s.done := rfl
@[simp] theorem chanRelease_txCalls : (chanRelease s).txCalls = s.txCalls := rfl
@[simp] theorem chanRelease_openCalls : (chanRelease s).openCalls = s.openCalls := rfl
@[simp] theorem chanRelease_inbox : (chanRelease s).inbox = s.inbox := rfl
@[simp] theorem chanRelease_openAnswers : (chanRelease s).openAnswers = s.openAnswers := rfl
@[simp] theorem chanRelease_writeAnswers : (chanRelease s).writeAnswers = s.writeAnswers := rfl
@[simp] theorem chanRelease_freeCount : (chanRelease s).freeCount = s.freeCount := rfl
end

section
variable (s : State)

@[simp] theorem toggleNs_params : (toggleNs s).params = s.params := rfl
@[simp] theorem toggleNs_p : (toggleNs s).p = s.p := rfl
@[simp] theorem toggleNs_cfg : (toggleNs s).cfg = s.cfg := rfl
@[simp] theorem toggleNs_maxRetries : (toggleNs s).maxRetries = s.maxRetries := rfl
@[simp] theorem toggleNs_role : (toggleNs s).role = s.role := rfl
@[simp] theorem toggleNs_ns : (toggleNs s).ns = !s.ns := rfl
@[simp] theorem toggleNs_nr : (toggleNs s).nr = s.nr := rfl
@[simp] theorem toggleNs_retry : (toggleNs s).retry = s.retry := rfl
@[simp] theorem toggleNs_rejcnt : (toggleNs s).rejcnt = s.rejcnt := rfl
@[simp] theorem toggleNs_tarmed : (toggleNs s).tarmed = s.tarmed := rfl
@[simp] theorem toggleNs_ph : (toggleNs s).ph = s.ph := rfl
@[simp] theorem toggleNs_sc : (toggleNs s).sc = s.sc := rfl
@[simp] theorem toggleNs_rxbuf : (toggleNs s).rxbuf = s.rxbuf := rfl
@[simp] theorem toggleNs_txbuf : (toggleNs s).txbuf = s.txbuf := rfl
@[simp] theorem toggleNs_chanHeld : (toggleNs s).chanHeld = s.chanHeld := rfl
@[simp] theorem toggleNs_txpay : (toggleNs s).txpay = s.txpay := rfl
@[simp] theorem toggleNs_rxpkt : (toggleNs s).rxpkt = s.rxpkt := rfl
@[simp] theorem toggleNs_status : (toggleNs s).status = s.status := rfl
@[simp] theorem toggleNs_resultLen : (toggleNs s).resultLen = s.resultLen := rfl
@[simp] theorem toggleNs_opResult : (toggleNs s).opResult = s.opResult := rfl
@[simp] theorem toggleNs_done : (toggleNs s).done = s.done := rfl
@[simp] theorem toggleNs_txCalls : (toggleNs s).txCalls = s.txCalls := rfl
@[simp] theorem toggleNs_openCalls : (toggleNs s).openCalls = s.openCalls := rfl
@[simp] theorem toggleNs_inbox : (toggleNs s).inbox = s.inbox := rfl
@[simp] theorem toggleNs_openAnswers : (toggleNs s).openAnswers = s.openAnswers := rfl
@[simp] theorem toggleNs_writeAnswers : (toggleNs s).writeAnswers = s.writeAnswers := rfl
@[simp] theorem toggleNs_freeCount : (toggleNs s).freeCount = s.freeCount := rfl
end

section
variable (s : State)

@[simp] theorem toggleNr_params : (toggleNr s).params = s.params := rfl
@[simp] theorem toggleNr_p : (toggleNr s).p = s.p := rfl
@[simp] theorem toggleNr_cfg : (toggleNr s).cfg = s.cfg := rfl
@[simp] theorem toggleNr_maxRetries : (toggleNr s).maxRetries = s.maxRetries := rfl
@[simp] theorem toggleNr_role : (toggleNr s).role = s.role := rfl
@[simp] theorem toggleNr_ns : (toggleNr s).ns = s.ns := rfl
@[simp] theorem toggleNr_nr : (toggleNr s).nr = !s.nr := rfl
@[simp] theorem toggleNr_retry : (toggleNr s).retry = s.retry := rfl
@[simp] theorem toggleNr_rejcnt : (toggleNr s).rejcnt = s.rejcnt := rfl
@[simp] theorem toggleNr_tarmed : (toggleNr s).tarmed = s.tarmed := rfl
@[simp] theorem toggleNr_ph : (toggleNr s).ph = s.ph := rfl
@[simp] theorem toggleNr_sc : (toggleNr s).sc = s.sc := rfl
@[simp] theorem toggleNr_rxbuf : (toggleNr s).rxbuf = s.rxbuf := rfl
@[simp] theorem toggleNr_txbuf : (toggleNr s).txbuf = s.txbuf := rfl
@[simp] theorem toggleNr_chanHeld : (toggleNr s).chanHeld = s.chanHeld := rfl
@[simp] theorem toggleNr_txpay : (toggleNr s).txpay = s.txpay := rfl
@[simp] theorem toggleNr_rxpkt : (toggleNr s).rxpkt = s.rxpkt := rfl
@[simp] theorem toggleNr_status : (toggleNr s).status = s.status := rfl
@[simp] theorem toggleNr_resultLen : (toggleNr s).resultLen = s.resultLen := rfl
@[simp] theorem toggleNr_opResult : (toggleNr s).opResult = s.opResult := rfl
@[simp] theorem toggleNr_done : (toggleNr s).done = s.done := rfl
@[simp] theorem toggleNr_txCalls : (toggleNr s).txCalls = s.txCalls := rfl
@[simp] theorem toggleNr_openCalls : (toggleNr s).openCalls = s.openCalls := rfl
@[simp] theorem toggleNr_inbox : (toggleNr s).inbox = s.inbox := rfl
@[simp] theorem toggleNr_openAnswers : (toggleNr s).openAnswers = s.openAnswers := rfl
@[simp] theorem toggleNr_writeAnswers : (toggleNr s).writeAnswers = s.writeAnswers := rfl
@[simp] theorem toggleNr_freeCount : (toggleNr s).freeCount = s.freeCount := rfl
end

section
variable (sc : Scan) (buf : Bytes) (s : State)

@[simp] theorem setScan_params : (setScan sc buf s).params = s.params := rfl
@[simp] theorem setScan_p : (setScan sc buf s).p = s.p := rfl
@[simp] theorem setScan_cfg : (setScan sc buf s).cfg = s.cfg := rfl
@[simp] theorem setScan_maxRetries : (setScan sc buf s).maxRetries = s.maxRetries := rfl
@[simp] theorem setScan_role : (setScan sc buf s).role = s.role := rfl
@[simp] theorem setScan_ns : (setScan sc buf s).ns = s.ns := rfl
@[simp] theorem setScan_nr : (setScan sc buf s).nr = s.nr := rfl
@[simp] theorem setScan_retry : (setScan sc buf s).retry = s.retry := rfl
@[simp] theorem setScan_rejcnt : (setScan sc buf s).rejcnt = s.rejcnt := rfl
@[simp] theorem setScan_tarmed : (setScan sc buf s).tarmed = s.tarmed := rfl
@[simp] theorem setScan_ph : (setScan sc buf s).ph = s.ph := rfl
@[simp] theorem setScan_sc : (setScan sc buf s).sc = sc := rfl
@[simp] theorem setScan_rxbuf : (setScan sc buf s).rxbuf = buf := rfl
@[simp] theorem setScan_txbuf : (setScan sc buf s).txbuf = s.txbuf := rfl
@[simp] theorem setScan_chanHeld : (setScan sc buf s).chanHeld = s.chanHeld := rfl
@[simp] theorem setScan_txpay : (setScan sc buf s).txpay = s.txpay := rfl
@[simp] theorem setScan_rxpkt : (setScan sc buf s).rxpkt = s.rxpkt := rfl
@[simp] theorem setScan_status : (setScan sc buf s).status = s.status := rfl
@[simp] theorem setScan_resultLen : (setScan sc buf s).resultLen = s.resultLen := rfl
@[simp] theorem setScan_opResult : (setScan sc buf s).opResult = s.opResult := rfl
@[simp] theorem setScan_done : (setScan sc buf s).done = s.done := rfl
@[simp] theorem setScan_txCalls : (setScan sc buf s).txCalls = s.txCalls := rfl
@[simp] theorem setScan_openCalls : (setScan sc buf s).openCalls = s.openCalls := rfl
@[simp] theorem setScan_inbox : (setScan sc buf s).inbox = s.inbox := rfl
@[simp] theorem setScan_openAnswers : (setScan sc buf s).openAnswers = s.openAnswers := rfl
@[simp] theorem setScan_writeAnswers : (setScan sc buf s).writeAnswers = s.writeAnswers := rfl
@[simp] theorem setScan_freeCount : (setScan sc buf s).freeCount = s.freeCount := rfl
end

section
variable (ph : Phase) (s : State)

@[simp] theorem goto_params : (goto ph s).params = s.params := rfl
@[simp] theorem goto_p : (goto ph s).p = s.p := rfl
@[simp] theorem goto_cfg : (goto ph s).cfg = s.cfg := rfl
@[simp] theorem goto_maxRetries : (goto ph s).maxRetries = s.maxRetries := rfl
@[simp] theorem goto_role : (goto ph s).role = s.role := rfl
@[simp] theorem goto_ns : (goto ph s).ns = s.ns := rfl
@[simp] theorem goto_nr : (goto ph s).nr = s.nr := rfl
@[simp] theorem goto_retry : (goto ph s).retry = s.retry := rfl
@[simp] theorem goto_rejcnt : (goto ph s).rejcnt = s.rejcnt := rfl
@[simp] theorem goto_tarmed : (goto ph s).tarmed = s.tarmed := rfl
@[simp] theorem goto_ph : (goto ph s).ph = ph := rfl
@[simp] theorem goto_sc : (goto ph s).sc = s.sc := rfl
@[simp] theorem goto_rxbuf : (goto ph s).rxbuf = s.rxbuf := rfl
@[simp] theorem goto_txbuf : (goto ph s).txbuf = s.txbuf := rfl
@[simp] theorem goto_chanHeld : (goto ph s).chanHeld = s.chanHeld := rfl
@[simp] theorem goto_txpay : (goto ph s).txpay = s.txpay := rfl
@[simp] theorem goto_rxpkt : (goto ph s).rxpkt = s.rxpkt := rfl
@[simp] theorem goto_status : (goto ph s).status = s.status := rfl
@[simp] theorem goto_resultLen : (goto ph s).resultLen = s.resultLen := rfl
@[simp] theorem goto_opResult : (goto ph s).opResult = s.opResult := rfl
@[simp] theorem goto_done : (goto ph s).done = s.done := rfl
@[simp] theorem goto_txCalls : (goto ph s).txCalls = s.txCalls := rfl
@[simp] theorem goto_openCalls : (goto ph s).openCalls = s.openCalls := rfl
@[simp] theorem goto_inbox : (goto ph s).inbox = s.inbox := rfl
@[simp] theorem goto_openAnswers : (goto ph s).openAnswers = s.openAnswers := rfl
@[simp] theorem goto_writeAnswers : (goto ph s).writeAnswers = s.writeAnswers := rfl
@[simp] theorem goto_freeCount : (goto ph s).freeCount = s.freeCount := rfl
end

section
variable (r : OpResult) (s : State)

@[simp] theorem giveBack_params : (giveBack r s).params = s.params := rfl
@[simp] theorem giveBack_p : (giveBack r s).p = s.p := rfl
@[simp] theorem giveBack_cfg : (giveBack r s).cfg = s.cfg := rfl
@[simp] theorem giveBack_maxRetries : (giveBack r s).maxRetries = s.maxRetries := rfl
@[simp] theorem giveBack_role : (giveBack r s).role = s.role := rfl
@[simp] theorem giveBack_ns : (giveBack r s).ns = s.ns := rfl
@[simp] theorem giveBack_nr : (giveBack r s).nr = s.nr := rfl
@[simp] theorem giveBack_retry : (giveBack r s).retry = s.retry := rfl
@[simp] theorem giveBack_rejcnt : (giveBack r s).rejcnt = s.rejcnt := rfl
@[simp] theorem giveBack_tarmed : (giveBack r s).tarmed = s.tarmed := rfl
@[simp] theorem giveBack_ph : (giveBack r s).ph = s.ph := rfl
@[simp] theorem giveBack_sc : (giveBack r s).sc = s.sc := rfl
@[simp] theorem giveBack_rxbuf : (giveBack r s).rxbuf = s.rxbuf := rfl
@[simp] theorem giveBack_txbuf : (giveBack r s).txbuf = s.txbuf := rfl
@[simp] theorem giveBack_chanHeld : (giveBack r s).chanHeld = s.chanHeld := rfl
@[simp] theorem giveBack_txpay : (giveBack r s).txpay = s.txpay := rfl
@[simp] theorem giveBack_rxpkt : (giveBack r s).rxpkt = s.rxpkt := rfl
@[simp] theorem giveBack_status : (giveBack r s).status = s.status := rfl
@[simp] theorem giveBack_resultLen : (giveBack r s).resultLen = s.resultLen := rfl
@[simp] theorem giveBack_opResult : (giveBack r s).opResult = r := rfl
@[simp] theorem giveBack_done : (giveBack r s).done = s.done := rfl
@[simp] theorem giveBack_txCalls : (giveBack r s).txCalls = s.txCalls := rfl
@[simp] theorem giveBack_openCalls : (giveBack r s).openCalls = s.openCalls := rfl
@[simp] theorem giveBack_inbox : (giveBack r s).inbox = s.inbox := rfl
@[simp] theorem giveBack_openAnswers : (giveBack r s).openAnswers = s.openAnswers := rfl
@[simp] theorem giveBack_writeAnswers : (giveBack r s).writeAnswers = s.writeAnswers := rfl
@[simp] theorem giveBack_freeCount : (giveBack r s).freeCount = s.freeCount := rfl
end

section
variable (s : State)

@[simp] theorem clearCounters_params : (clearCounters s).params = s.params := rfl
@[simp] theorem clearCounters_p : (clearCounters s).p = s.p := rfl
@[simp] theorem clearCounters_cfg : (clearCounters s).cfg = s.cfg := rfl
@[simp] theorem clearCounters_maxRetries : (clearCounters s).maxRetries = s.maxRetries := rfl
@[simp] theorem clearCounters_role : (clearCounters s).role = s.role := rfl
@[simp] theorem clearCounters_ns : (clearCounters s).ns = s.ns := rfl
@[simp] theorem clearCounters_nr : (clearCounters s).nr = s.nr := rfl
@[simp] theorem clearCounters_retry : (clearCounters s).retry = 0 := rfl
@[simp] theorem clearCounters_rejcnt : (clearCounters s).rejcnt = 0 := rfl
@[simp] theorem clearCounters_tarmed : (clearCounters s).tarmed = s.tarmed := rfl
@[simp] theorem clearCounters_ph : (clearCounters s).ph = s.ph := rfl
@[simp] theorem clearCounters_sc : (clearCounters s).sc = s.sc := rfl
@[simp] theorem clearCounters_rxbuf : (clearCounters s).rxbuf = s.rxbuf := rfl
@[simp] theorem clearCounters_txbuf : (clearCounters s).txbuf = s.txbuf := rfl
@[simp] theorem clearCounters_chanHeld : (clearCounters s).chanHeld = s.chanHeld := rfl
@[simp] theorem clearCounters_txpay : (clearCounters s).txpay = s.txpay := rfl
@[simp] theorem clearCounters_rxpkt : (clearCounters s).rxpkt = s.rxpkt := rfl
@[simp] theorem clearCounters_status : (clearCounters s).status = s.status := rfl
@[simp] theorem clearCounters_resultLen : (clearCounters s).resultLen = s.resultLen := rfl
@[simp] theorem clearCounters_opResult : (clearCounters s).opResult = s.opResult := rfl
@[simp] theorem clearCounters_done : (clearCounters s).done = s.done := rfl
@[simp] theorem clearCounters_txCalls : (clearCounters s).txCalls = s.txCalls := rfl
@[simp] theorem clearCounters_openCalls : (clearCounters s).openCalls = s.openCalls := rfl
@[simp] theorem clearCounters_inbox : (clearCounters s).inbox = s.inbox := rfl
@[simp] theorem clearCounters_openAnswers : (clearCounters s).openAnswers = s.openAnswers := rfl
@[simp] theorem clearCounters_writeAnswers : (clearCounters s).writeAnswers = s.writeAnswers := rfl
@[simp] theorem clearCounters_freeCount : (clearCounters s).freeCount = s.freeCount := rfl
end

section
variable (s : State)

@[simp] theorem openCalled_params : (openCalled s).params = s.params := rfl
@[simp] theorem openCalled_p : (openCalled s).p = s.p := rfl
@[simp] theorem openCalled_cfg : (openCalled s).cfg = s.cfg := rfl
@[simp] theorem openCalled_maxRetries : (openCalled s).maxRetries = s.maxRetries := rfl
@[simp] theorem openCalled_role : (openCalled s).role = s.role := rfl
@[simp] theorem openCalled_ns : (openCalled s).ns = s.ns := rfl
@[simp] theorem openCalled_nr : (openCalled s).nr = s.nr := rfl
@[simp] theorem openCalled_retry : (openCalled s).retry = s.retry := rfl
@[simp] theorem openCalled_rejcnt : (openCalled s).rejcnt = s.rejcnt := rfl
@[simp] theorem openCalled_tarmed : (openCalled s).tarmed = s.tarmed := rfl
@[simp] theorem openCalled_ph : (openCalled s).ph = s.ph := rfl
@[simp] theorem openCalled_sc : (openCalled s).sc = s.sc := rfl
@[simp] theorem openCalled_rxbuf : (openCalled s).rxbuf = s.rxbuf := rfl
@[simp] theorem openCalled_txbuf : (openCalled s).txbuf = s.txbuf := rfl
@[simp] theorem openCalled_chanHeld : (openCalled s).chanHeld = s.chanHeld := rfl
@[simp] theorem openCalled_txpay : (openCalled s).txpay = s.txpay := rfl
@[simp] theorem openCalled_rxpkt : (openCalled s).rxpkt = s.rxpkt := rfl
@[simp] theorem openCalled_status : (openCalled s).status = s.status := rfl
@[simp] theorem openCalled_resultLen : (openCalled s).resultLen = s.resultLen := rfl
@[simp] theorem openCalled_opResult : (openCalled s).opResult = s.opResult := rfl
@[simp] theorem openCalled_done : (openCalled s).done = s.done := rfl
@[simp] theorem openCalled_txCalls : (openCalled s).txCalls = s.txCalls := rfl
@[simp] theorem openCalled_openCalls : (openCalled s).openCalls = s.openCalls ++ [(s.cfg.channelId, s.cfg.baud)] := rfl
@[simp] theorem openCalled_inbox : (openCalled s).inbox = s.inbox := rfl
@[simp] theorem openCalled_openAnswers : (openCalled s).openAnswers = s.openAnswers.tail := rfl
@[simp] theorem openCalled_writeAnswers : (openCalled s).writeAnswers = s.writeAnswers := rfl
@[simp] theorem openCalled_freeCount : (openCalled s).freeCount = s.freeCount + 1 := rfl
end

section
variable (s : State)

@[simp] theorem writeCalled_params : (writeCalled s).params = s.params := rfl
@[simp] theorem writeCalled_p : (writeCalled s).p = s.p := rfl
@[simp] theorem writeCalled_cfg : (writeCalled s).cfg = s.cfg := rfl
@[simp] theorem writeCalled_maxRetries : (writeCalled s).maxRetries = s.maxRetries := rfl
@[simp] theorem writeCalled_role : (writeCalled s).role = s.role := rfl
@[simp] theorem writeCalled_ns : (writeCalled s).ns = s.ns := rfl
@[simp] theorem writeCalled_nr : (writeCalled s).nr = s.nr := rfl
@[simp] theorem writeCalled_retry : (writeCalled s).retry = s.retry := rfl
@[simp] theorem writeCalled_rejcnt : (writeCalled s).rejcnt = s.rejcnt := rfl
@[simp] theorem writeCalled_tarmed : (writeCalled s).tarmed = s.tarmed := rfl
@[simp] theorem writeCalled_ph : (writeCalled s).ph = s.ph := rfl
@[simp] theorem writeCalled_sc : (writeCalled s).sc = s.sc := rfl
@[simp] theorem writeCalled_rxbuf : (writeCalled s).rxbuf = s.rxbuf := rfl
@[simp] theorem writeCalled_txbuf : (writeCalled s).txbuf = s.txbuf := rfl
@[simp] theorem writeCalled_chanHeld : (writeCalled s).chanHeld = s.chanHeld := rfl
@[simp] theorem writeCalled_txpay : (writeCalled s).txpay = s.txpay := rfl
@[simp] theorem writeCalled_rxpkt : (writeCalled s).rxpkt = s.rxpkt := rfl
@[simp] theorem writeCalled_status : (writeCalled s).status = s.status := rfl
@[simp] theorem writeCalled_resultLen : (writeCalled s).resultLen = s.resultLen := rfl
@[simp] theorem writeCalled_opResult : (writeCalled s).opResult = s.opResult := rfl
@[simp] theorem writeCalled_done : (writeCalled s).done = s.done := rfl
@[simp] theorem writeCalled_txCalls : (writeCalled s).txCalls = s.txCalls := rfl
@[simp] theorem writeCalled_openCalls : (writeCalled s).openCalls = s.openCalls := rfl
@[simp] theorem writeCalled_inbox : (writeCalled s).inbox = s.inbox := rfl
@[simp] theorem writeCalled_openAnswers : (writeCalled s).openAnswers = s.openAnswers := rfl
@[simp] theorem writeCalled_writeAnswers : (writeCalled s).writeAnswers = s.writeAnswers.tail := rfl
@[simp] theorem writeCalled_freeCount : (writeCalled s).freeCount = s.freeCount + 1 := rfl
end

section
variable (bs : Bytes) (s : State)

@[simp] theorem sent_params : (sent bs s).params = s.params := rfl
@[simp] theorem sent_p : (sent bs s).p = s.p := rfl
@[simp] theorem sent_cfg : (sent bs s).cfg = s.cfg := rfl
@[simp] theorem sent_maxRetries : (sent bs s).maxRetries = s.maxRetries := rfl
@[simp] theorem sent_role : (sent bs s).role = s.role := rfl
@[simp] theorem sent_ns : (sent bs s).ns = s.ns := rfl
@[simp] theorem sent_nr : (sent bs s).nr = s.nr := rfl
@[simp] theorem sent_retry : (sent bs s).retry = s.retry := rfl
@[simp] theorem sent_rejcnt : (sent bs s).rejcnt = s.rejcnt := rfl
@[simp] theorem sent_tarmed : (sent bs s).tarmed = s.tarmed := rfl
@[simp] theorem sent_ph : (sent bs s).ph = s.ph := rfl
@[simp] theorem sent_sc : (sent bs s).sc = s.sc := rfl
@[simp] theorem sent_rxbuf : (sent bs s).rxbuf = s.rxbuf := rfl
@[simp] theorem sent_txbuf : (sent bs s).txbuf = s.txbuf := rfl
@[simp] theorem sent_chanHeld : (sent bs s).chanHeld = s.chanHeld := rfl
@[simp] theorem sent_txpay : (sent bs s).txpay = s.txpay := rfl
@[simp] theorem sent_rxpkt : (sent bs s).rxpkt = s.rxpkt := rfl
@[simp] theorem sent_status : (sent bs s).status = s.status := rfl
@[simp] theorem sent_resultLen : (sent bs s).resultLen = s.resultLen := rfl
@[simp] theorem sent_opResult : (sent bs s).opResult = s.opResult := rfl
@[simp] theorem sent_done : (sent bs s).done = s.done := rfl
@[simp] theorem sent_txCalls : (sent bs s).txCalls = s.txCalls ++ [bs] := rfl
@[simp] theorem sent_openCalls : (sent bs s).openCalls = s.openCalls := rfl
@[simp] theorem sent_inbox : (sent bs s).inbox = s.inbox := rfl
@[simp] theorem sent_openAnswers : (sent bs s).openAnswers = s.openAnswers := rfl
@[simp] theorem sent_writeAnswers : (sent bs s).writeAnswers = s.writeAnswers.tail := rfl
@[simp] theorem sent_freeCount : (sent bs s).freeCount = s.freeCount + 1 := rfl
end

section
variable (s : State)

@[simp] theorem sessionReset_params : (sessionReset s).params = s.params := rfl
@[simp] theorem sessionReset_p : (sessionReset s).p = s.p := rfl
@[simp] theorem sessionReset_cfg : (sessionReset s).cfg = s.cfg := rfl
@[simp] theorem sessionReset_maxRetries : (sessionReset s).maxRetries = s.maxRetries := rfl
@[simp] theorem sessionReset_role : (sessionReset s).role = if s.cfg.role = 0 then .initiator else .responder := rfl
@[simp] theorem sessionReset_ns : (sessionReset s).ns = false := rfl
@[simp] theorem sessionReset_nr : (sessionReset s).nr = false := rfl
@[simp] theorem sessionReset_retry : (sessionReset s).retry = 0 := rfl
@[simp] theorem sessionReset_rejcnt : (sessionReset s).rejcnt = 0 := rfl
@[simp] theorem sessionReset_tarmed : (sessionReset s).tarmed = false := rfl
@[simp] theorem sessionReset_ph : (sessionReset s).ph = s.ph := rfl
@[simp] theorem sessionReset_sc : (sessionReset s).sc = .waitDelimiter := rfl
@[simp] theorem sessionReset_rxbuf : (sessionReset s).rxbuf = [] := rfl
@[simp] theorem sessionReset_txbuf : (sessionReset s).txbuf = [] := rfl
@[simp] theorem sessionReset_chanHeld : (sessionReset s).chanHeld = s.chanHeld := rfl
@[simp] theorem sessionReset_txpay : (sessionReset s).txpay = s.txpay := rfl
@[simp] theorem sessionReset_rxpkt : (sessionReset s).rxpkt = s.rxpkt := rfl
@[simp] theorem sessionReset_status : (sessionReset s).status = s.status := rfl
@[simp] theorem sessionReset_resultLen : (sessionReset s).resultLen = s.resultLen := rfl
@[simp] theorem sessionReset_opResult : (sessionReset s).opResult = s.opResult := rfl
@[simp] theorem sessionReset_done : (sessionReset s).done = s.done := rfl
@[simp] theorem sessionReset_txCalls : (sessionReset s).txCalls = s.txCalls := rfl
@[simp] theorem sessionReset_openCalls : (sessionReset s).openCalls = s.openCalls := rfl
@[simp] theorem sessionReset_inbox : (sessionReset s).inbox = s.inbox := rfl
@[simp] theorem sessionReset_openAnswers : (sessionReset s).openAnswers = s.openAnswers := rfl
@[simp] theorem sessionReset_writeAnswers : (sessionReset s).writeAnswers = s.writeAnswers := rfl
@[simp] theorem sessionReset_freeCount : (sessionReset s).freeCount = s.freeCount := rfl
end

section
variable (bs : Bytes) (s : State)

@[simp] theorem hostWriteTxpay_params : (hostWriteTxpay bs s).params = s.params := rfl
@[simp] theorem hostWriteTxpay_p : (hostWriteTxpay bs s).p = s.p := rfl
@[simp] theorem hostWriteTxpay_cfg : (hostWriteTxpay bs s).cfg = s.cfg := rfl
@[simp] theorem hostWriteTxpay_maxRetries : (hostWriteTxpay bs s).maxRetries = s.maxRetries := rfl
@[simp] theorem hostWriteTxpay_role : (hostWriteTxpay bs s).role = s.role := rfl
@[simp] theorem hostWriteTxpay_ns : (hostWriteTxpay bs s).ns = s.ns := rfl
@[simp] theorem hostWriteTxpay_nr : (hostWriteTxpay bs s).nr = s.nr := rfl
@[simp] theorem hostWriteTxpay_retry : (hostWriteTxpay bs s).retry = s.retry := rfl
@[simp] theorem hostWriteTxpay_rejcnt : (hostWriteTxpay bs s).rejcnt = s.rejcnt := rfl
@[simp] theorem hostWriteTxpay_tarmed : (hostWriteTxpay bs s).tarmed = s.tarmed := rfl
@[simp] theorem hostWriteTxpay_ph : (hostWriteTxpay bs s).ph = s.ph := rfl
@[simp] theorem hostWriteTxpay_sc : (hostWriteTxpay bs s).sc = s.sc := rfl
@[simp] theorem hostWriteTxpay_rxbuf : (hostWriteTxpay bs s).rxbuf = s.rxbuf := rfl
@[simp] theorem hostWriteTxpay_txbuf : (hostWriteTxpay bs s).txbuf = s.txbuf := rfl
@[simp] theorem hostWriteTxpay_chanHeld : (hostWriteTxpay bs s).chanHeld = s.chanHeld := rfl
@[simp] theorem hostWriteTxpay_txpay : (hostWriteTxpay bs s).txpay = bs := rfl
@[simp] theorem hostWriteTxpay_rxpkt : (hostWriteTxpay bs s).rxpkt = s.rxpkt := rfl
@[simp] theorem hostWriteTxpay_status : (hostWriteTxpay bs s).status = s.status := rfl
@[simp] theorem hostWriteTxpay_resultLen : (hostWriteTxpay bs s).resultLen = s.resultLen := rfl
@[simp] theorem hostWriteTxpay_opResult : (hostWriteTxpay bs s).opResult = s.opResult := rfl
@[simp] theorem hostWriteTxpay_done : (hostWriteTxpay bs s).done = s.done := rfl
@[simp] theorem hostWriteTxpay_txCalls : (hostWriteTxpay bs s).txCalls = s.txCalls := rfl
@[simp] theorem hostWriteTxpay_openCalls : (hostWriteTxpay bs s).openCalls = s.openCalls := rfl
@[simp] theorem hostWriteTxpay_inbox : (hostWriteTxpay bs s).inbox = s.inbox := rfl
@[simp] theorem hostWriteTxpay_openAnswers : (hostWriteTxpay bs s).openAnswers = s.openAnswers := rfl
@[simp] theorem hostWriteTxpay_writeAnswers : (hostWriteTxpay bs s).writeAnswers = s.writeAnswers := rfl
@[simp] theorem hostWriteTxpay_freeCount : (hostWriteTxpay bs s).freeCount = s.freeCount := rfl
end

section
variable (st : Status) (res : CmdResult) (s : State)

@[simp] theorem complete_params : (complete st res s).params = s.params := rfl
@[simp] theorem complete_p : (complete st res s).p = s.p := rfl
@[simp] theorem complete_cfg : (complete st res s).cfg = s.cfg := rfl
@[simp] theorem complete_maxRetries : (complete st res s).maxRetries = s.maxRetries := rfl
@[simp] theorem complete_role : (complete st res s).role = s.role := rfl
@[simp] theorem complete_ns : (complete st res s).ns = s.ns := rfl
@[simp] theorem complete_nr : (complete st res s).nr = s.nr := rfl
@[simp] theorem complete_retry : (complete st res s).retry = s.retry := rfl
@[simp] theorem complete_rejcnt : (complete st res s).rejcnt = s.rejcnt := rfl
@[simp] theorem complete_tarmed : (complete st res s).tarmed = s.tarmed := rfl
@[simp] theorem complete_ph : (complete st res s).ph = s.ph := rfl
@[simp] theorem complete_sc : (complete st res s).sc = s.sc := rfl
@[simp] theorem complete_rxbuf : (complete st res s).rxbuf = s.rxbuf := rfl
@[simp] theorem complete_txbuf : (complete st res s).txbuf = s.txbuf := rfl
@[simp] theorem complete_chanHeld : (complete st res s).chanHeld = s.chanHeld := rfl
@[simp] theorem complete_txpay : (complete st res s).txpay = s.txpay := rfl
@[simp] theorem complete_status : (complete st res s).status = st := rfl
@[simp] theorem complete_opResult : (complete st res s).opResult = s.opResult := rfl
@[simp] theorem complete_done : (complete st res s).done = s.done + 1 := rfl
@[simp] theorem complete_txCalls : (complete st res s).txCalls = s.txCalls := rfl
@[simp] theorem complete_openCalls : (complete st res s).openCalls = s.openCalls := rfl
@[simp] theorem complete_inbox : (complete st res s).inbox = s.inbox := rfl
@[simp] theorem complete_openAnswers : (complete st res s).openAnswers = s.openAnswers := rfl
@[simp] theorem complete_writeAnswers : (complete st res s).writeAnswers = s.writeAnswers := rfl
@[simp] theorem complete_freeCount : (complete st res s).freeCount = s.freeCount := rfl
end

/-! `Complete` writes the length and the packet where its result carries them (R181). -/

@[simp] theorem complete_none_resultLen (st : Status) (s : State) : (complete st .none s).resultLen = s.resultLen := rfl
@[simp] theorem complete_none_rxpkt (st : Status) (s : State) : (complete st .none s).rxpkt = s.rxpkt := rfl
@[simp] theorem complete_bytesWritten_resultLen (st : Status) (n : Nat) (s : State) :
    (complete st (.bytesWritten n) s).resultLen = n := rfl
@[simp] theorem complete_bytesWritten_rxpkt (st : Status) (n : Nat) (s : State) :
    (complete st (.bytesWritten n) s).rxpkt = s.rxpkt := rfl
@[simp] theorem complete_packet_resultLen (st : Status) (p : Bytes) (s : State) :
    (complete st (.packet p) s).resultLen = p.length := rfl
@[simp] theorem complete_packet_rxpkt (st : Status) (p : Bytes) (s : State) : (complete st (.packet p) s).rxpkt = p := rfl

end Sys2Proof.Machine
end

