-- ==== Sys2Proof/Laws/Ops.lean ====
section
/-! SUPPORT. What each shared operation can do, said once: writing, completing, failing, retrying, scanning, receiving.
The provers cite these instead of unfolding the operations. -/

namespace Sys2Proof.Machine

open Sys2Proof

/-! ## Writing (R57) -/

/-- Only the listed answers and the counter of free values decide a write. -/
theorem writeError_congr {s t : State} (h1 : t.writeAnswers = s.writeAnswers) (h2 : t.freeCount = s.freeCount)
    (bs : Bytes) : writeError bs t = writeError bs s := by
  simp [writeError, writeAnswer, h1, h2]

theorem writeError_count (bs : Bytes) (n : Nat) (ws : List WriteAnswer) (s : State)
    (h : s.writeAnswers = .count n :: ws) (hn : bs.length ≤ n) : writeError bs s = none := by
  simp [writeError, writeAnswer, h, hn]

theorem writeError_error (bs : Bytes) (e : ChanErr) (ws : List WriteAnswer) (s : State)
    (h : s.writeAnswers = .error e :: ws) : writeError bs s = some e := by
  simp [writeError, writeAnswer, h]

theorem writeThen_ok (bs : Bytes) (k : State → State) (s : State) (h : writeError bs s = none) :
    writeThen bs k s = k (sent bs s) := by simp [writeThen, h]

theorem writeThen_error (bs : Bytes) (k : State → State) (s : State) (e : ChanErr) (h : writeError bs s = some e) :
    writeThen bs k s = fatal (.channelError e) (writeCalled s) := by simp [writeThen, h]

/-- A write succeeds and the step goes on, or it fails and the session ends. -/
theorem writeThen_cases (bs : Bytes) (k : State → State) (s : State) :
    (writeError bs s = none ∧ writeThen bs k s = k (sent bs s)) ∨
    ∃ e, writeError bs s = some e ∧ writeThen bs k s = fatal (.channelError e) (writeCalled s) := by
  cases h : writeError bs s with
  | none => exact .inl ⟨rfl, writeThen_ok bs k s h⟩
  | some e => exact .inr ⟨e, rfl, writeThen_error bs k s e h⟩

/-! ## Reading (R55) -/

/-- Only the inputs a read is given decide it, not those the state lists. -/
theorem readFrom_inbox (l x : List Input) (s : State) : readFrom l { s with inbox := x } = readFrom l s := by
  induction l generalizing s with
  | nil => rfl
  | cons e l ih =>
    cases e with
    | frame bs => rcases bs with _ | ⟨b, _ | ⟨c, bs⟩⟩ <;> first | rfl | exact ih s
    | timeout => simp only [readFrom]; split <;> first | rfl | exact ih s
    | cmd | writeCfg => exact ih s
    | writeTxpay bs => exact ih (hostWriteTxpay bs s)
    | rx | rxerr | hwReset => rfl

/-- What a read can do: return one answer, be ended by a hardware reset, or block. On its way it may write `TXPAY`. -/
theorem readFrom_cases (l : List Input) (s : State) :
    (∃ a rest pay, readFrom l s = .next (readReturns a rest { s with txpay := pay }) ∧
      (a = .timeoutSignal → s.tarmed = true)) ∨
    (∃ rest pay, readFrom l s = .next (giveBack .none (hwReset { s with inbox := rest, txpay := pay }))) ∨
    readFrom l s = .refused .readBlocks := by
  induction l generalizing s with
  | nil => exact .inr (.inr rfl)
  | cons e l ih =>
    cases e with
    | frame bs =>
      rcases bs with _ | ⟨b, _ | ⟨c, bs⟩⟩
      · exact ih s
      · exact .inl ⟨_, _, s.txpay, rfl, nofun⟩
      · exact .inl ⟨_, _, s.txpay, rfl, nofun⟩
    | timeout =>
      simp only [readFrom]
      split
      · exact .inl ⟨_, _, s.txpay, rfl, fun _ => ‹_›⟩
      · exact ih s
    | cmd | writeCfg => exact ih s
    | writeTxpay bs => exact ih (hostWriteTxpay bs s)
    | rx | rxerr => exact .inl ⟨_, _, s.txpay, rfl, nofun⟩
    | hwReset => exact .inr (.inl ⟨_, s.txpay, rfl⟩)

/-! ## Failing (R189) -/

/-- The fatal path writes these five elements. -/
theorem fatal_eq (st : Status) (s : State) : fatal st s =
    { s with tarmed := false, chanHeld := false, ph := .closed, status := st, done := s.done + 1 } := rfl

/-! ## Retrying (R175) -/

theorem retryWith_fatal (err : Status) (resend : State → State) (s : State) (h : s.maxRetries ≤ s.retry + 1) :
    retryWith err resend s = fatal err { s with tarmed := false, retry := s.retry + 1 } := by
  simp [retryWith, h]

theorem retryWith_resend (err : Status) (resend : State → State) (s : State) (h : s.retry + 1 < s.maxRetries) :
    retryWith err resend s = resend { s with tarmed := false, retry := s.retry + 1 } := by
  simp [retryWith, Nat.not_le.2 h]

/-- Both orders of arming, writing and scanner reset leave the same state when the write succeeds (R175, C4, C11). -/
theorem armThenWrite_ok (s : State) (h : writeError s.txbuf s = none) :
    armThenWrite s = { sent s.txbuf s with tarmed := true, sc := .waitDelimiter, rxbuf := [] } := by
  unfold armThenWrite
  rw [writeThen_ok _ _ _ (by rw [writeError_congr (s := s)] <;> simp [scannerReset, h])]
  rfl

theorem writeThenArm_ok (s : State) (h : writeError s.txbuf s = none) :
    writeThenArm s = { sent s.txbuf s with tarmed := true, sc := .waitDelimiter, rxbuf := [] } := by
  unfold writeThenArm; rw [writeThen_ok _ _ _ h]; rfl

/-! ## The control scanner (R112) -/

/-- A match is one of the templates, and it is what the scanner has read. -/
theorem cscanResult_some (b : Byte) (ts : List Bytes) (s : State) (t : Bytes) (h : cscanResult b ts s = some t) :
    t ∈ ts ∧ t = s.rxbuf ++ [b] ∧ afterCscan b ts s = setScan .matched t s := by
  unfold cscanResult cscanMatch at h
  split at h
  · rename_i i hsc
    split at h
    · cases h
    · split at h
      · rename_i h1 h2
        cases h
        exact ⟨h2, rfl, by simp [afterCscan, cscanNext, hsc, h1, h2]⟩
      · cases h
  all_goals cases h

/-- The fifth byte of a template matches. -/
theorem cscan_match (b : Byte) (ts : List Bytes) (s : State) (hs : s.sc = .reading 4) (h : s.rxbuf ++ [b] ∈ ts) :
    cscanResult b ts s = some (s.rxbuf ++ [b]) ∧ afterCscan b ts s = setScan .matched (s.rxbuf ++ [b]) s := by
  simp [cscanResult, cscanMatch, afterCscan, cscanNext, hs, bufAppend, h]

/-- The fifth byte of anything else is a silent resync. -/
theorem cscan_noMatch (b : Byte) (ts : List Bytes) (s : State) (hs : s.sc = .reading 4) (h : s.rxbuf ++ [b] ∉ ts) :
    cscanResult b ts s = none ∧ afterCscan b ts s = setScan .waitDelimiter [] s := by
  simp [cscanResult, cscanMatch, afterCscan, cscanNext, hs, bufAppend, h]

/-- Before the fifth byte every byte is appended. -/
theorem cscan_reading (b : Byte) (ts : List Bytes) (s : State) (i : Nat) (hs : s.sc = .reading i) (hi : i + 1 < 5) :
    cscanResult b ts s = none ∧ afterCscan b ts s = setScan (.reading (i + 1)) (s.rxbuf ++ [b]) s := by
  simp [cscanResult, cscanMatch, afterCscan, cscanNext, hs, bufAppend, hi]

theorem cscan_flag (ts : List Bytes) (s : State) (hs : s.sc = .waitDelimiter) :
    cscanResult FLAG ts s = none ∧ afterCscan FLAG ts s = setScan (.reading 1) [FLAG] s := by
  simp [cscanResult, cscanMatch, afterCscan, cscanNext, hs]

theorem cscan_ignore (b : Byte) (ts : List Bytes) (s : State) (hs : s.sc = .waitDelimiter) (hb : b ≠ FLAG) :
    cscanResult b ts s = none ∧ afterCscan b ts s = s := by
  constructor
  · simp [cscanResult, cscanMatch, hs]
  · cases s; simp_all [afterCscan, cscanNext, setScan]

/-! ## The data scanner (R113) -/

theorem dscan_flag_start (s : State) (hs : s.sc = .waitDelimiter) :
    dscanResult FLAG s = none ∧ afterDscan FLAG s = setScan (.reading 1) [FLAG] s := by
  simp [dscanResult, dscanFrame, afterDscan, dscanNext, hs]

theorem dscan_reading (b : Byte) (s : State) (i : Nat) (hs : s.sc = .reading i) (hb : b ≠ FLAG)
    (hr : noRoom s.p i = false) :
    dscanResult b s = none ∧ afterDscan b s = setScan (.reading (i + 1)) (s.rxbuf ++ [b]) s := by
  simp [dscanResult, dscanFrame, afterDscan, dscanNext, hs, hb, bufAppend, hr]

theorem dscan_close (s : State) (i : Nat) (hs : s.sc = .reading i) (hi : 6 ≤ i + 1) :
    dscanResult FLAG s = some (s.rxbuf ++ [FLAG]) ∧ afterDscan FLAG s = setScan .waitDelimiter [] s := by
  simp [dscanResult, dscanFrame, afterDscan, dscanNext, hs, bufAppend, Nat.not_lt.2 hi]

theorem dscan_short (s : State) (i : Nat) (hs : s.sc = .reading i) (hi : i + 1 < 6) :
    dscanResult FLAG s = none ∧ afterDscan FLAG s = setScan .waitDelimiter [] s := by
  simp [dscanResult, dscanFrame, afterDscan, dscanNext, hs, hi]

theorem noRoom_eq_false (p : ParamSet) (i : Nat) : noRoom p i = false ↔ p.runFits (i + 2) := by
  unfold noRoom ParamSet.runFits
  cases p.rxCap <;> simp; omega

theorem runFits_mono (p : ParamSet) {m n : Nat} (h : p.runFits n) (hmn : m ≤ n) : p.runFits m := by
  unfold ParamSet.runFits at *
  cases hc : p.rxCap <;> simp_all; omega

/-- Every frame a conforming peer can send fits (R52). -/
theorem runFits_of_wf (p : ParamSet) (h : p.Wf) : p.runFits (2 * p.mss + 7) := by
  unfold ParamSet.runFits
  cases hc : p.rxCap with
  | none => trivial
  | some cap => exact h.2.2.2 cap (by simp [hc])

/-- Putting the scanner back where it stood. -/
theorem setScan_aligned (sc : Scan) (buf : Bytes) (s : State) (hs : s.Aligned) :
    setScan .waitDelimiter [] (setScan sc buf s) = s := by
  obtain ⟨h1, h2⟩ := hs
  cases s
  simp only at h1 h2
  subst h1 h2
  rfl

/-! ## Receiving: one byte -/

/-- The templates a phase step compares with are the frames R80 lists. -/
theorem awaited_setScan (sc : Scan) (buf : Bytes) (s : State) : (setScan sc buf s).awaited = s.awaited := rfl

/-- In a control-scanner phase a byte that completes no awaited frame only moves the scanner (R80). -/
theorem rxByte_noMatch (b : Byte) (s : State) (hp : s.ph.control = true) (h : cscanResult b s.awaited s = none) :
    rxByte b s = afterCscan b s.awaited s := by
  unfold rxByte
  cases hph : s.ph <;> simp [hph, Phase.control] at hp <;>
    (simp only [State.awaited, hph] at h ⊢
     simp only [oiWaitUaRx, orWaitSetRx, txWaitAckRx, ciWaitDiscRx, crWaitDiscRx, crWaitUaRx, ackTemplates, expectedRr,
       expectedRej, template, h])

/-- In `RX_FRAME` a byte that delimits no run only moves the scanner (R156). -/
theorem rxByte_noFrame (b : Byte) (s : State) (hp : s.ph = .rxFrame) (h : dscanResult b s = none) :
    rxByte b s = afterDscan b s := by simp [rxByte, hp, rxFrameRx, h]

theorem rxByte_frame (b : Byte) (s : State) (raw : Bytes) (hp : s.ph = .rxFrame) (h : dscanResult b s = some raw) :
    rxByte b s = classify (decData raw) (afterDscan b s) := by simp [rxByte, hp, rxFrameRx, h]

/-- A block that is not reading loses the byte. -/
theorem rxByte_notReading (b : Byte) (s : State) (hp : s.ph = .closed ∨ s.ph = .idle) : rxByte b s = s := by
  rcases hp with hp | hp <;> simp [rxByte, hp]

@[simp] theorem rxBytes_nil (s : State) : rxBytes [] s = s := rfl
@[simp] theorem rxBytes_cons (b : Byte) (bs : Bytes) (s : State) : rxBytes (b :: bs) s = rxBytes bs (rxByte b s) := rfl

theorem rxBytes_append (bs cs : Bytes) (s : State) : rxBytes (bs ++ cs) s = rxBytes cs (rxBytes bs s) := by
  simp [rxBytes]

theorem rxBytes_notReading (bs : Bytes) (s : State) (hp : s.ph = .closed ∨ s.ph = .idle) : rxBytes bs s = s := by
  induction bs with
  | nil => rfl
  | cons b bs ih => rw [rxBytes_cons, rxByte_notReading b s hp, ih]

/-! ## Receiving: a whole control frame -/

/-- An aligned control-scanner phase has read the first four bytes of a frame. -/
theorem rxBytes_four (a c x : Byte) (s : State) (hp : s.ph.control = true) (hs : s.Aligned) :
    rxBytes [FLAG, a, c, x] s = setScan (.reading 4) [FLAG, a, c, x] s := by
  have h1 := cscan_flag s.awaited s hs.1
  have h2 := cscan_reading a s.awaited (setScan (.reading 1) [FLAG] s) 1 rfl (by decide)
  have h3 := cscan_reading c s.awaited (setScan (.reading 2) [FLAG, a] s) 2 rfl (by decide)
  have h4 := cscan_reading x s.awaited (setScan (.reading 3) [FLAG, a, c] s) 3 rfl (by decide)
  simp only [rxBytes_cons, rxBytes_nil]
  rw [rxByte_noMatch FLAG s hp h1.1, h1.2,
    rxByte_noMatch a (setScan (.reading 1) [FLAG] s) hp (by simpa only [awaited_setScan] using h2.1), awaited_setScan, h2.2]
  show rxByte x (rxByte c (setScan (.reading 2) [FLAG, a] s)) = _
  rw [rxByte_noMatch c (setScan (.reading 2) [FLAG, a] s) hp (by simpa only [awaited_setScan] using h3.1), awaited_setScan, h3.2]
  show rxByte x (setScan (.reading 3) [FLAG, a, c] s) = _
  rw [rxByte_noMatch x (setScan (.reading 3) [FLAG, a, c] s) hp (by simpa only [awaited_setScan] using h4.1), awaited_setScan, h4.2]
  rfl

/-- A control frame at an aligned control-scanner phase comes down to its last byte. -/
theorem rxBytes_ctrl (a c : Byte) (s : State) (hp : s.ph.control = true) (hs : s.Aligned) :
    rxBytes (encCtrl a c) s = rxByte FLAG (setScan (.reading 4) [FLAG, a, c, bcc1 a c] s) := by
  have : encCtrl a c = [FLAG, a, c, bcc1 a c] ++ [FLAG] := rfl
  rw [this, rxBytes_append, rxBytes_four a c _ s hp hs]; rfl

/-- A control frame that is not awaited leaves no trace (R80). -/
theorem rxBytes_ctrl_dropped (a c : Byte) (s : State) (hp : s.ph.control = true) (hs : s.Aligned)
    (h : encCtrl a c ∉ s.awaited) : rxBytes (encCtrl a c) s = s := by
  have h' := cscan_noMatch FLAG s.awaited (setScan (.reading 4) [FLAG, a, c, bcc1 a c] s) rfl h
  rw [rxBytes_ctrl a c s hp hs, rxByte_noMatch _ (setScan (.reading 4) [FLAG, a, c, bcc1 a c] s) hp (by simpa only [awaited_setScan] using h'.1), awaited_setScan, h'.2]
  exact setScan_aligned _ _ s hs

/-! ## Receiving: a run in `RX_FRAME` -/

/-- Bytes without a delimiter accumulate while they fit. -/
theorem rxBytes_run (bs : Bytes) (s : State) (i : Nat) (hp : s.ph = .rxFrame) (hs : s.sc = .reading i)
    (hb : FLAG ∉ bs) (hf : s.p.runFits (i + bs.length + 1)) :
    rxBytes bs s = setScan (.reading (i + bs.length)) (s.rxbuf ++ bs) s := by
  induction bs generalizing s i with
  | nil => cases s; simp_all [setScan]
  | cons b bs ih =>
    have hb' : b ≠ FLAG ∧ FLAG ∉ bs := by simpa [eq_comm] using hb
    have hr : noRoom s.p i = false := (noRoom_eq_false _ _).2 (runFits_mono _ hf (by simp))
    have h1 := dscan_reading b s i hs hb'.1 hr
    rw [rxBytes_cons, rxByte_noFrame b s hp h1.1, h1.2,
      ih (setScan (.reading (i + 1)) (s.rxbuf ++ [b]) s) (i + 1) hp rfl hb'.2
        (by have : i + 1 + bs.length + 1 = i + (b :: bs).length + 1 := by simp; omega
            rw [this]; exact hf)]
    simp [setScan]; omega

/-- A run at an aligned `RX_FRAME` whose buffer holds it comes down to its classification. -/
theorem rxBytes_frame (body : Bytes) (s : State) (hp : s.ph = .rxFrame) (hs : s.Aligned) (hb : FLAG ∉ body)
    (hl : 4 ≤ body.length) (hf : s.p.runFits (body.length + 2)) :
    rxBytes (FLAG :: (body ++ [FLAG])) s = classify (decData (FLAG :: (body ++ [FLAG]))) s := by
  have h1 := dscan_flag_start s hs.1
  rw [rxBytes_cons, rxByte_noFrame FLAG s hp h1.1, h1.2, rxBytes_append,
    rxBytes_run body (setScan (.reading 1) [FLAG] s) 1 hp rfl hb (by rw [show 1 + body.length + 1 = body.length + 2 by omega]; exact hf)]
  have h2 := dscan_close (setScan (.reading (1 + body.length)) ([FLAG] ++ body) s) (1 + body.length) rfl (by omega)
  show rxByte FLAG (setScan (.reading (1 + body.length)) ([FLAG] ++ body) s) = _
  rw [rxByte_frame FLAG (setScan (.reading (1 + body.length)) ([FLAG] ++ body) s) _ hp h2.1, h2.2]
  have : setScan .waitDelimiter [] (setScan (.reading (1 + body.length)) ([FLAG] ++ body) s) = s := by
    exact setScan_aligned _ _ s hs
  rw [this]; rfl

/-- A run of fewer than six bytes leaves no trace (R113). -/
theorem rxBytes_short (body : Bytes) (s : State) (hp : s.ph = .rxFrame) (hs : s.Aligned) (hb : FLAG ∉ body)
    (hl : body.length < 4) (hf : s.p.runFits (body.length + 2)) :
    rxBytes (FLAG :: (body ++ [FLAG])) s = s := by
  have h1 := dscan_flag_start s hs.1
  rw [rxBytes_cons, rxByte_noFrame FLAG s hp h1.1, h1.2, rxBytes_append,
    rxBytes_run body (setScan (.reading 1) [FLAG] s) 1 hp rfl hb (by rw [show 1 + body.length + 1 = body.length + 2 by omega]; exact hf)]
  have h2 := dscan_short (setScan (.reading (1 + body.length)) ([FLAG] ++ body) s) (1 + body.length) rfl (by omega)
  show rxByte FLAG (setScan (.reading (1 + body.length)) ([FLAG] ++ body) s) = _
  rw [rxByte_noFrame FLAG (setScan (.reading (1 + body.length)) ([FLAG] ++ body) s) hp h2.1, h2.2]
  exact setScan_aligned _ _ s hs

end Sys2Proof.Machine
end

