-- ==== Sys2Proof/Laws/PerInstr.lean ====
section
/-! SUPPORT. Families of statements over all operations, one lemma per constructor. -/

namespace Sys2Proof.Laws.Encoding

open Sys2Proof

/-- The encoding of an operation has the shape of its row's format: five bytes, a data frame, a 2-bit code, or none
(R72, R73, R83, R86). -/
def Statement (i : Instr) : Prop :=
  ∀ p : ParamSet,
    match i.format with
    | .ctrl => ∃ a c, encode p i = some (.frame (Sys2Proof.encCtrl a c))
    | .data => ∃ a sb pl, encode p i = some (.frame (Sys2Proof.encData p a sb pl))
    | .cmd => ∃ code, encode p i = some (.cmd code)
    | .op => encode p i = none

theorem set : Statement .set := fun _ => ⟨_, _, rfl⟩
theorem ua (sender : Role) : Statement (.ua sender) := fun _ => ⟨_, _, rfl⟩
theorem disc (sender : Role) : Statement (.disc sender) := fun _ => ⟨_, _, rfl⟩
theorem i0 (sender : Role) (payload : Bytes) : Statement (.i0 sender payload) := fun _ => ⟨_, _, _, rfl⟩
theorem i1 (sender : Role) (payload : Bytes) : Statement (.i1 sender payload) := fun _ => ⟨_, _, _, rfl⟩
theorem rr0 (sender : Role) : Statement (.rr0 sender) := fun _ => ⟨_, _, rfl⟩
theorem rr1 (sender : Role) : Statement (.rr1 sender) := fun _ => ⟨_, _, rfl⟩
theorem rej0 (sender : Role) : Statement (.rej0 sender) := fun _ => ⟨_, _, rfl⟩
theorem rej1 (sender : Role) : Statement (.rej1 sender) := fun _ => ⟨_, _, rfl⟩
theorem openCmd : Statement .openCmd := fun _ => ⟨_, rfl⟩
theorem sendCmd : Statement .sendCmd := fun _ => ⟨_, rfl⟩
theorem receiveCmd : Statement .receiveCmd := fun _ => ⟨_, rfl⟩
theorem closeCmd : Statement .closeCmd := fun _ => ⟨_, rfl⟩
theorem bcc1 (a c : Byte) : Statement (.bcc1 a c) := fun _ => rfl
theorem bcc2 (p : Bytes) : Statement (.bcc2 p) := fun _ => rfl
theorem stuff (bs : Bytes) : Statement (.stuff bs) := fun _ => rfl
theorem stuffBcc2 (p : Bytes) : Statement (.stuffBcc2 p) := fun _ => rfl
theorem destuff (r : Bytes) : Statement (.destuff r) := fun _ => rfl
theorem encCtrl (a c : Byte) : Statement (.encCtrl a c) := fun _ => rfl
theorem encData (a : Byte) (sb : SeqBit) (p : Bytes) : Statement (.encData a sb p) := fun _ => rfl
theorem decData (raw : Bytes) : Statement (.decData raw) := fun _ => rfl
theorem template (a c : Byte) : Statement (.template a c) := fun _ => rfl
theorem cscan (b : Byte) (ts : List Bytes) : Statement (.cscan b ts) := fun _ => rfl
theorem dscan (b : Byte) : Statement (.dscan b) := fun _ => rfl
theorem scannerReset : Statement .scannerReset := fun _ => rfl
theorem oiWaitUaRx (b : Byte) : Statement (.oiWaitUaRx b) := fun _ => rfl
theorem oiWaitUaTimeout : Statement .oiWaitUaTimeout := fun _ => rfl
theorem orWaitSetRx (b : Byte) : Statement (.orWaitSetRx b) := fun _ => rfl
theorem ciWaitDiscRx (b : Byte) : Statement (.ciWaitDiscRx b) := fun _ => rfl
theorem ciWaitDiscTimeout : Statement .ciWaitDiscTimeout := fun _ => rfl
theorem crWaitDiscRx (b : Byte) : Statement (.crWaitDiscRx b) := fun _ => rfl
theorem crWaitUaRx (b : Byte) : Statement (.crWaitUaRx b) := fun _ => rfl
theorem handshakeRxerr (e : ChanErr) : Statement (.handshakeRxerr e) := fun _ => rfl
theorem txWaitAckRxRr (b : Byte) : Statement (.txWaitAckRxRr b) := fun _ => rfl
theorem txWaitAckRxRej : Statement .txWaitAckRxRej := fun _ => rfl
theorem txWaitAckTimeout : Statement .txWaitAckTimeout := fun _ => rfl
theorem rxFrameRx (b : Byte) : Statement (.rxFrameRx b) := fun _ => rfl
theorem rxFrameC2 : Statement .rxFrameC2 := fun _ => rfl
theorem rxFrameAccept (p : Bytes) : Statement (.rxFrameAccept p) := fun _ => rfl
theorem rxFrameDup : Statement .rxFrameDup := fun _ => rfl
theorem rxFrameC1 : Statement .rxFrameC1 := fun _ => rfl
theorem arqRxerr (e : ChanErr) : Statement (.arqRxerr e) := fun _ => rfl
theorem timerArm : Statement .timerArm := fun _ => rfl
theorem timerCancel : Statement .timerCancel := fun _ => rfl
theorem timeout : Statement .timeout := fun _ => rfl
theorem retryStep : Statement .retryStep := fun _ => rfl
theorem complete (st : Status) (res : CmdResult) : Statement (.complete st res) := fun _ => rfl
theorem fatal (st : Status) : Statement (.fatal st) := fun _ => rfl
theorem chanOpen : Statement .chanOpen := fun _ => rfl
theorem chanRead : Statement .chanRead := fun _ => rfl
theorem chanWrite (bs : Bytes) : Statement (.chanWrite bs) := fun _ => rfl
theorem chanRelease : Statement .chanRelease := fun _ => rfl
theorem sessionReset : Statement .sessionReset := fun _ => rfl
theorem hwReset : Statement .hwReset := fun _ => rfl

end Sys2Proof.Laws.Encoding
end

