-- ==== Sys2Proof/Laws/Step.lean ====
section
/-! SUPPORT. What one step can do, said once: what each input does, and what one received byte does. -/

namespace Sys2Proof.Machine

open Sys2Proof

/-- What a command code does in a state (R83, R130). -/
def cmdResult (code : BitVec 2) (s : State) : State :=
  if code = 0 then (if s.ph = .closed then openStep s else s)
  else if code = 1 then (if s.ph = .idle ∧ s.txpay.length ≤ s.p.mss then sendStep s else s)
  else if code = 2 then (if s.ph = .idle then goto .rxFrame (scannerReset s) else s)
  else if s.ph = .idle then
    (match s.role with
      | .initiator => closeInitiator s
      | .responder => closeResponder s)
  else s

/-- What an input does, whether or not it decodes to an operation. -/
def inputResult (e : Input) (s : State) : State :=
  match e with
  | .cmd code => cmdResult code s
  | .frame bs => rxBytes bs s
  | .rx b => rxByte b s
  | .timeout => if s.tarmed then phaseRetry s else s
  | .rxerr e => if s.ph.waiting then fatal (.channelError e) s else s
  | .writeCfg w => hostWriteCfg w s
  | .writeTxpay bs => hostWriteTxpay bs s
  | .hwReset => hwReset s

/-- A wire frame's meaning is the reception of its bytes. -/
theorem exec_wire (i : Instr) (bs : Bytes) (s : State) (h : encode s.p i = some (.frame bs)) :
    exec i s = .next (rxBytes bs s) := by
  cases i <;> simp only [encode, Option.some.injEq, reduceCtorEq, Input.frame.injEq] at h <;> subst h <;> rfl

/-- A command's meaning. -/
theorem exec_decodeCmd (code : BitVec 2) (s : State) : exec (decodeCmd code) s = .next (cmdResult code s) := by
  unfold decodeCmd cmdResult
  split
  · rfl
  · split
    · rfl
    · split <;> rfl

/-- Every step with an input takes it and answers a next state. -/
theorem step_eq (s : State) (e : Input) (rest : List Input) (h : s.inbox = e :: rest) :
    step s = .next (inputResult e { s with inbox := rest }) := by
  unfold step
  rw [h]
  simp only
  cases e with
  | cmd code => exact exec_decodeCmd code _
  | frame bs =>
    simp only [inputInstr, inputResult]
    cases hd : decodeFrame s.p bs with
    | error _ => rfl
    | ok i => exact exec_wire i bs _ (decodeFrame_eq_ok s.p bs i hd)
  | rx b =>
    simp only [inputInstr, inputResult, rxInstr]
    cases hp : s.ph <;>
      simp [rxByte, hp, exec, execOiWaitUaRx, execOrWaitSetRx, execTxWaitAckRxRr, execRxFrameRx, execCiWaitDiscRx,
        execCrWaitDiscRx, execCrWaitUaRx, whenEnabled, inputAlone]
  | timeout =>
    simp only [inputInstr, inputResult, timeoutInstr]
    cases ht : s.tarmed <;> cases hp : s.ph <;>
      simp [phaseRetry, hp, ht, exec, execOiWaitUaTimeout, execCiWaitDiscTimeout, execTxWaitAckTimeout, whenEnabled,
        inputAlone]
  | rxerr e =>
    simp only [inputInstr, inputResult, rxerrInstr]
    cases hp : s.ph <;>
      simp [hp, Phase.handshake, Phase.arq, Phase.waiting, exec, execHandshakeRxerr, execArqRxerr, whenEnabled,
        inputAlone]
  | writeCfg w => rfl
  | writeTxpay bs => rfl
  | hwReset => rfl

/-- The three ways one byte can move only the scanner. -/
def ScanMove (b : Byte) (s : State) (sc : Scan) (buf : Bytes) : Prop :=
  (s.ph.control = true ∧ cscanResult b s.awaited s = none ∧ (sc, buf) = cscanNext b s.awaited s.sc s.rxbuf) ∨
  (s.ph = .rxFrame ∧ (sc, buf) = dscanNext s.p b s.sc s.rxbuf) ∨
  ((s.ph = .closed ∨ s.ph = .idle) ∧ sc = s.sc ∧ buf = s.rxbuf)

/-- What the last byte of an awaited frame `t` does in each control-scanner phase. -/
def MatchMove (b : Byte) (s : State) (t : Bytes) : Prop :=
  let m := setScan .matched t s
  (s.ph = .oiWaitUa ∧ rxByte b s = complete .ok .none (goto .idle (timerCancel m))) ∨
  (s.ph = .orWaitSet ∧
    rxByte b s = writeThen (uaFrame s.p .responder) (fun t => complete .ok .none (goto .idle t)) m) ∨
  (s.ph = .ciWaitDisc ∧
    rxByte b s = writeThen (uaFrame s.p .initiator) (fun t => complete .ok .none (goto .closed (chanRelease t)))
      (timerCancel m)) ∨
  (s.ph = .crWaitDisc ∧
    rxByte b s = writeThen (discFrame s.p .responder) (fun t => goto .crWaitUa (scannerReset t)) m) ∨
  (s.ph = .crWaitUa ∧ rxByte b s = complete .ok .none (goto .closed (chanRelease m))) ∨
  (s.ph = .txWaitAck ∧ t = expectedRr s ∧ rxByte b s = ackAccepted m) ∨
  (s.ph = .txWaitAck ∧ t ≠ expectedRr s ∧ rxByte b s = rejMatched m)

/-- A byte moves only the scanner, or completes the frame its phase waits for, or delimits a run. -/
theorem rxByte_cases (b : Byte) (s : State) :
    (∃ sc buf, rxByte b s = setScan sc buf s ∧ ScanMove b s sc buf) ∨
    (∃ t, s.ph.control = true ∧ t ∈ s.awaited ∧ s.rxbuf ++ [b] = t ∧ MatchMove b s t) ∨
    (∃ raw, s.ph = .rxFrame ∧ dscanResult b s = some raw ∧
      rxByte b s = classify (decData raw) (setScan .waitDelimiter [] s)) := by
  cases hp : s.ph
  case closed => exact .inl ⟨s.sc, s.rxbuf, by simp only [rxByte, hp]; rfl, .inr (.inr ⟨.inl hp, rfl, rfl⟩)⟩
  case idle => exact .inl ⟨s.sc, s.rxbuf, by simp only [rxByte, hp]; rfl, .inr (.inr ⟨.inr hp, rfl, rfl⟩)⟩
  case rxFrame =>
    cases h : dscanResult b s with
    | none => exact .inl ⟨_, _, rxByte_noFrame b s hp h, .inr (.inl ⟨hp, rfl⟩)⟩
    | some raw =>
      refine .inr (.inr ⟨raw, rfl, rfl, ?_⟩)
      rw [rxByte_frame b s raw hp h]
      congr 1
      simp only [dscanResult, dscanFrame] at h
      split at h <;> try cases h
      rename_i hs
      split at h <;> try cases h
      simp [afterDscan, dscanNext, hs, *]
  all_goals
    have hc : s.ph.control = true := by rw [hp]; rfl
    cases h : cscanResult b s.awaited s with
    | none => exact .inl ⟨_, _, rxByte_noMatch b s hc h, .inl ⟨hc, h, rfl⟩⟩
    | some t =>
      obtain ⟨h1, h2, h3⟩ := cscanResult_some b _ s t h
      refine .inr (.inl ⟨t, rfl, h1, h2.symm, ?_⟩)
      simp only [State.awaited, hp] at h h1 h3
      simp only [MatchMove, rxByte, hp, reduceCtorEq, false_and, false_or, or_false, true_and, oiWaitUaRx, orWaitSetRx,
        ciWaitDiscRx, crWaitDiscRx, crWaitUaRx, txWaitAckRx, template, ackTemplates, expectedRr, expectedRej, h, h3]
      try (by_cases ht : t = encCtrl (pa s) (cRr s.p s.ns.toggle) <;> simp [ht])

end Sys2Proof.Machine
end

