-- ==== Sys2Proof/Tests/Slice0.lean ====
section
/-! SUPPORT. Tests of the model, and witnesses that the hypotheses of the statements can be met. Expected values are the
vectors of spec/95_test_vectors.md (V, S and T numbers) or are worked out from the rule named. -/

namespace Sys2Proof.Tests

open Sys2Proof Sys2Proof.Machine

/-! ## Helpers -/

/-- The default parameters with a bounded receive buffer, as small as R52 allows. -/
def capEight : Params := ⟨{ ParamSet.pDefault with mss := 0, rxCap := some 8 }, by decide⟩

/-- Closed, with an open and three writes that will succeed. -/
def closed (role : BitVec 2) (n : Nat) : State :=
  { State.reset with
    cfg := { Cfg.reset with role := role, maxRetries := n }
    openAnswers := [.ok]
    writeAnswers := [.count 5, .count 5, .count 5] }

/-- A session in a phase, with writes that will succeed. -/
def session (r : Role) (ph : Phase) : State :=
  { closed (if r = .initiator then 0 else 1) 3 with
    role := r
    ph := ph
    chanHeld := true
    tarmed := ph.timed
    writeAnswers := [.count 15, .count 15, .count 15] }

/-- The scanner has read these bytes. -/
def reading (bs : Bytes) (s : State) : State := { s with sc := .reading bs.length, rxbuf := bs }

/-- A SEND waits for its acknowledgment: V70 is in `TXBUF`. -/
def sending : State := { session .initiator .txWaitAck with txbuf := [0x7E, 0x03, 0x00, 0x03, 0x48, 0x69, 0x21, 0x7E] }

/-- The operation answers a next state, and this holds of it. -/
def after (i : Instr) (s : State) (f : State → Bool) : Bool := (nextOf (exec i s)).any f

/-- The step on one input answers a next state, and this holds of it. -/
def afterInput (e : Input) (s : State) (f : State → Bool) : Bool := (nextOf (step { s with inbox := [e] })).any f

/-- The refusal of an outcome, if it is one. -/
def refusalOf (o : Host.Outcome State Fault Refusal) : Option Refusal :=
  match o with
  | .next _ => none
  | .fault _ => none
  | .refused r => some r

/-- The value an operation hands back. -/
def answer (i : Instr) : Option OpResult := (nextOf (exec i State.reset)).map (·.opResult)

/-! ## Well-formedness: an ill-formed term for each check -/

theorem test_wf_payloadOverMss : (Instr.i0 .initiator [1, 2, 3, 4, 5]).wf .pDefault = false ∧
    (Instr.i1 .responder [1, 2, 3, 4, 5]).wf .pDefault = false ∧
    (Instr.encData 3 false [1, 2, 3, 4, 5]).wf .pDefault = false ∧
    (Instr.i0 .initiator [1, 2, 3, 4]).wf .pDefault = true := by decide

theorem test_wf_notARun : (Instr.decData [0x7E, 1, 2, 3, 0x7E]).wf .pDefault = false ∧
    (Instr.decData [0x7E, 1, 0x7E, 3, 4, 0x7E]).wf .pDefault = false ∧
    (Instr.decData [1, 1, 2, 3, 4, 0x7E]).wf .pDefault = false ∧
    (Instr.decData [0x7E, 1, 2, 3, 4, 5]).wf .pDefault = false ∧
    (Instr.decData [0x7E, 1, 2, 3, 4, 0x7E]).wf .pDefault = true := by decide

theorem test_wf_templates : (Instr.cscan 1 []).wf .pDefault = false ∧
    (Instr.cscan 1 (List.replicate 3 (encCtrl 1 1))).wf .pDefault = false ∧
    (Instr.cscan 1 [[0x7E, 1, 1, 0x7E]]).wf .pDefault = false ∧
    (Instr.cscan 1 [[0, 1, 1, 0, 0x7E]]).wf .pDefault = false ∧
    (Instr.cscan 1 [[0x7E, 1, 1, 0, 0]]).wf .pDefault = false ∧
    (Instr.cscan 1 [encCtrl 1 1, encCtrl 1 2]).wf .pDefault = true := by decide

theorem test_wf_deliveredOverCap : (Instr.rxFrameAccept [1, 2, 3]).wf capEight.val = false ∧
    (Instr.rxFrameAccept [1, 2]).wf capEight.val = true := by decide

theorem test_wf_writeOneFrame : (Instr.chanWrite [0x7E, 0x7E]).wf .pDefault = false ∧
    (Instr.chanWrite (0x7E :: List.replicate 14 0 ++ [0x7E])).wf .pDefault = false ∧
    (Instr.chanWrite [0, 3, 3, 0, 0x7E]).wf .pDefault = false ∧
    (Instr.chanWrite [0x7E, 3, 3, 0, 0]).wf .pDefault = false ∧
    (Instr.chanWrite [0x7E, 3, 3, 0, 0x7E]).wf .pDefault = true := by decide

theorem test_wf_resultWithError : (Instr.complete .dup (.packet [1])).wf .pDefault = false ∧
    (Instr.complete .ok (.packet [1])).wf .pDefault = true ∧ (Instr.complete .dup .none).wf .pDefault = true := by
  decide

theorem test_wf_fatalStatus : (Instr.fatal .ok).wf .pDefault = false ∧ (Instr.fatal .dup).wf .pDefault = false ∧
    (Instr.fatal .transferFailed).wf .pDefault = true := by decide

/-- R9 (a), (b), (c) and R52, one ill-formed set each. -/
theorem test_params_refused :
    ({ ParamSet.pDefault with aRsp := 0x03 }).check = none ∧
    ({ ParamSet.pDefault with cUa := 0x03 }).check = none ∧
    ({ ParamSet.pDefault with aIni := 0x7E }).check = none ∧
    ({ ParamSet.pDefault with cUa := 0x7F }).check = none ∧
    ({ ParamSet.pDefault with rxCap := some 14 }).check = none ∧
    ({ ParamSet.pDefault with rxCap := some 15 }).check.isSome = true := by decide

/-! ## Decoding: words written out from the spec (V1 to V13, V60 to V73, R83) -/

theorem test_decode_set : decode .pDefault (.frame [0x7E, 0x03, 0x03, 0x00, 0x7E]) = .ok .set := by decide
theorem test_decode_ua : decode .pDefault (.frame [0x7E, 0x01, 0x07, 0x06, 0x7E]) = .ok (.ua .responder) ∧
    decode .pDefault (.frame [0x7E, 0x03, 0x07, 0x04, 0x7E]) = .ok (.ua .initiator) := by decide
theorem test_decode_disc : decode .pDefault (.frame [0x7E, 0x03, 0x0B, 0x08, 0x7E]) = .ok (.disc .initiator) ∧
    decode .pDefault (.frame [0x7E, 0x01, 0x0B, 0x0A, 0x7E]) = .ok (.disc .responder) := by decide
theorem test_decode_i0 :
    decode .pDefault (.frame [0x7E, 0x03, 0x00, 0x03, 0x7D, 0x5E, 0x01, 0x7D, 0x5D, 0x02, 0x00, 0x7E]) =
      .ok (.i0 .initiator [0x7E, 0x01, 0x7D, 0x02]) ∧
    decode .pDefault (.frame [0x7E, 0x01, 0x00, 0x01, 0x00, 0x7E]) = .ok (.i0 .responder []) := by decide
theorem test_decode_i1 :
    decode .pDefault (.frame [0x7E, 0x03, 0x40, 0x43, 0x7D, 0x5E, 0x7D, 0x5E, 0x7E]) = .ok (.i1 .initiator [0x7E]) ∧
    decode .pDefault (.frame [0x7E, 0x01, 0x40, 0x41, 0x7D, 0x5D, 0x5E, 0x23, 0x7E]) =
      .ok (.i1 .responder [0x7D, 0x5E]) := by decide
theorem test_decode_rr0 : decode .pDefault (.frame [0x7E, 0x03, 0x05, 0x06, 0x7E]) = .ok (.rr0 .initiator) ∧
    decode .pDefault (.frame [0x7E, 0x01, 0x05, 0x04, 0x7E]) = .ok (.rr0 .responder) := by decide
theorem test_decode_rr1 : decode .pDefault (.frame [0x7E, 0x03, 0x85, 0x86, 0x7E]) = .ok (.rr1 .initiator) ∧
    decode .pDefault (.frame [0x7E, 0x01, 0x85, 0x84, 0x7E]) = .ok (.rr1 .responder) := by decide
theorem test_decode_rej0 : decode .pDefault (.frame [0x7E, 0x03, 0x01, 0x02, 0x7E]) = .ok (.rej0 .initiator) ∧
    decode .pDefault (.frame [0x7E, 0x01, 0x01, 0x00, 0x7E]) = .ok (.rej0 .responder) := by decide
theorem test_decode_rej1 : decode .pDefault (.frame [0x7E, 0x03, 0x81, 0x82, 0x7E]) = .ok (.rej1 .initiator) ∧
    decode .pDefault (.frame [0x7E, 0x01, 0x81, 0x80, 0x7E]) = .ok (.rej1 .responder) := by decide
theorem test_decode_commands : decode .pDefault (.cmd 0) = .ok .openCmd ∧ decode .pDefault (.cmd 1) = .ok .sendCmd ∧
    decode .pDefault (.cmd 2) = .ok .receiveCmd ∧ decode .pDefault (.cmd 3) = .ok .closeCmd := by decide

/-- V14, V84, V85, V88, V93, V95 and cut frames: each is refused under its own name. -/
theorem test_decode_refusals :
    decode .pDefault (.frame [0x7E, 0x01, 0x03, 0x02, 0x7E]) = .error .wrongSender ∧
    decode .pDefault (.frame [0x7E, 0x03, 0x00, 0x02, 0x41, 0x41, 0x7E]) = .error .badChecksum1 ∧
    decode .pDefault (.frame [0x7E, 0x03, 0x00, 0x03, 0x01, 0x7E]) = .error .badChecksum2 ∧
    decode .pDefault (.frame [0x7E, 0x03, 0x00, 0x03, 0x7D, 0x7E]) = .error .danglingEscape ∧
    decode .pDefault (.frame [0x7E, 0x03, 0x00, 0x03, 0x7D, 0x68, 0x69, 0x21, 0x7E]) = .error .notCanonical ∧
    decode .pDefault (.frame [0x7E, 0x05, 0x05, 0x00, 0x41, 0x41, 0x7E]) = .error .unknownAddress ∧
    decode .pDefault (.frame [0x7E, 0x03, 0x02, 0x01, 0x7E]) = .error .unknownControl ∧
    decode .pDefault (.frame [0x7E, 0x01, 0x07, 0x06, 0x00, 0x7E]) = .error .notADataCode ∧
    decode .pDefault (.frame [0x7E, 0x03, 0x00, 0x03, 0x00, 0x00]) = .error .noClosingFlag ∧
    decode .pDefault (.frame [0x00, 0x03, 0x03, 0x00, 0x7E]) = .error .noOpeningFlag ∧
    decode .pDefault (.frame [0x7E, 0x03]) = .error .tooShort ∧
    decode .pDefault .timeout = .error .notAnEncoding := by decide

theorem test_tableWord : decodeTableWord 8 0x07 = some (.ua .initiator) ∧ decodeTableWord 8 0x40 = some (.i1 .initiator []) ∧
    decodeTableWord 8 0x85 = some (.rr1 .initiator) ∧ decodeTableWord 8 2 = some .receiveCmd ∧
    decodeTableWord 8 0xFF = none := by decide

theorem test_withFetchWord_runs :
    (nextOf (step (State.reset.withFetchWord 8 0x40))).isSome = true ∧
    (nextOf (step ({ closed 1 3 with inbox := [] }.withFetchWord 8 0))).map (·.ph) = some .orWaitSet := by decide

/-! ## Codec -/

/-- V3, V9. -/
theorem test_bcc1 : answer (.bcc1 0x03 0x0B) = some (.byte 0x08) ∧ answer (.bcc1 0x01 0x85) = some (.byte 0x84) := by
  decide
/-- V29, V35. -/
theorem test_bcc2 : answer (.bcc2 [0x3F, 0x41]) = some (.byte 0x7E) ∧ answer (.bcc2 [0x7D, 0x5E]) = some (.byte 0x23) := by
  decide
/-- W1, V27. -/
theorem test_stuff : answer (.stuff [0x7E, 0x01, 0x7D, 0x02]) = some (.bytes [0x7D, 0x5E, 0x01, 0x7D, 0x5D, 0x02]) ∧
    answer (.stuff [0x5E, 0x5D]) = some (.bytes [0x5E, 0x5D]) := by decide
/-- V29, V30. -/
theorem test_stuffBcc2 : answer (.stuffBcc2 [0x3F, 0x41]) = some (.bytes [0x7D, 0x5E]) ∧
    answer (.stuffBcc2 [0x3E, 0x43]) = some (.bytes [0x7D, 0x5D]) := by decide
/-- V45, V47, V51. -/
theorem test_destuff : answer (.destuff [0x7D, 0x41]) = some (.bytes [0x61]) ∧
    answer (.destuff [0x7D, 0x7D, 0x5E]) = some (.bytes [0x5D, 0x5E]) ∧
    answer (.destuff [0x41, 0x7D]) = some .malformed := by decide
/-- V1, V14. -/
theorem test_encCtrl : answer (.encCtrl 0x03 0x03) = some (.bytes [0x7E, 0x03, 0x03, 0x00, 0x7E]) ∧
    answer (.encCtrl 0x01 0x03) = some (.bytes [0x7E, 0x01, 0x03, 0x02, 0x7E]) := by decide
/-- V60, V68. -/
theorem test_encData : answer (.encData 0x03 false []) = some (.bytes [0x7E, 0x03, 0x00, 0x03, 0x00, 0x7E]) ∧
    answer (.encData 0x03 true [0x3E, 0x43]) =
      some (.bytes [0x7E, 0x03, 0x40, 0x43, 0x3E, 0x43, 0x7D, 0x5D, 0x7E]) := by decide
/-- V84, V93. -/
theorem test_decData_accepts :
    answer (.decData [0x7E, 0x03, 0x00, 0x02, 0x41, 0x41, 0x7E]) = some (.decoded .checksum1Mismatch) ∧
    answer (.decData [0x7E, 0x03, 0x00, 0x03, 0x7D, 0x68, 0x69, 0x21, 0x7E]) =
      some (.decoded (.data 0x03 0x00 [0x48, 0x69])) := by decide
/-- V88, V92, V97. -/
theorem test_decData_rejects :
    answer (.decData [0x7E, 0x03, 0x00, 0x03, 0x7D, 0x7E]) = some (.decoded (.checksum2Mismatch 0x03 0x00)) ∧
    answer (.decData [0x7E, 0x03, 0x40, 0x43, 0x7D, 0x5E, 0x7E]) = some (.decoded (.checksum2Mismatch 0x03 0x40)) ∧
    answer (.decData [0x7E, 0x7D, 0x00, 0x7D, 0x55, 0x55, 0x7E]) = some (.decoded (.data 0x7D 0x00 [0x55])) := by
  decide
/-- V2. -/
theorem test_template : answer (.template 0x01 0x07) = some (.bytes [0x7E, 0x01, 0x07, 0x06, 0x7E]) := by decide
/-- S1 and S2: the sixth byte of S1 matches, the fifth byte of S2 fails. -/
theorem test_cscan :
    after (.cscan 0x7E [encCtrl 0x01 0x07]) (reading [0x7E, 0x01, 0x07, 0x06] State.reset)
      (fun t => t.sc == .matched && t.opResult == .isMatch [0x7E, 0x01, 0x07, 0x06, 0x7E]) ∧
    after (.cscan 0x06 [encCtrl 0x01 0x07]) (reading [0x7E, 0x7E, 0x01, 0x07] State.reset)
      (fun t => t.sc == .waitDelimiter && t.rxbuf == [] && t.opResult == .noMatch) := by decide
/-- S10 and S9: a run of eight bytes is a frame, a run of two is dropped. -/
theorem test_dscan :
    after (.dscan 0x7E) (reading [0x7E, 0x03, 0x00, 0x03, 0x48, 0x69, 0x21] State.reset)
      (fun t => t.sc == .waitDelimiter && t.opResult == .isFrame [0x7E, 0x03, 0x00, 0x03, 0x48, 0x69, 0x21, 0x7E]) ∧
    after (.dscan 0x7E) (reading [0x7E] State.reset)
      (fun t => t.sc == .waitDelimiter && t.rxbuf == [] && t.opResult == .noFrame) := by decide
/-- S14 (b): the byte for which there is no room any more, and the delimiter that ends the over-long run. -/
theorem test_dscan_overflow :
    after (.dscan 0x44) (reading [0x7E, 0x03, 0x00, 0x03, 0x41, 0x42, 0x43] { State.reset with params := capEight })
      (fun t => t.sc == .overflow && t.rxbuf == [] && t.opResult == .noFrame) ∧
    after (.dscan 0x7E) { State.reset with sc := .overflow }
      (fun t => t.sc == .waitDelimiter && t.opResult == .noFrame) := by decide
/-- R114. -/
theorem test_scannerReset : after .scannerReset (reading [0x7E, 0x03] State.reset)
      (fun t => t.sc == .waitDelimiter && t.rxbuf == []) := by decide

/-! ## Commands -/

/-- T1, T3. -/
theorem test_open : after .openCmd (closed 0 3)
      (fun t => t.chanHeld == true && t.tarmed == true && t.ph == .oiWaitUa &&
        t.txCalls == [[0x7E, 0x03, 0x03, 0x00, 0x7E]]) ∧
    after .openCmd (closed 3 3)
      (fun t => t.status == .invalidRole && t.ph == .closed && t.chanHeld == false && t.openCalls == []) := by decide
/-- T2, T5. -/
theorem test_open_responder_and_error : after .openCmd (closed 1 3)
      (fun t => t.role == .responder && t.tarmed == false && t.ph == .orWaitSet && t.txCalls == []) ∧
    after .openCmd { closed 0 3 with writeAnswers := [.error ⟨9⟩] }
      (fun t => t.status == .channelError ⟨9⟩ && t.ph == .closed && t.chanHeld == false &&
        t.tarmed == false) := by decide
/-- T12, T13. -/
theorem test_send :
    after .sendCmd { session .initiator .idle with txpay := [0x48, 0x69], retry := 2 }
      (fun t => t.retry == 0 && t.tarmed == true && t.ph == .txWaitAck &&
        t.txCalls == [[0x7E, 0x03, 0x00, 0x03, 0x48, 0x69, 0x21, 0x7E]]) ∧
    after .sendCmd { session .initiator .idle with txpay := [1, 2, 3, 4, 5] }
      (fun t => t.ph == .idle && t.done == 0 && t.txCalls == []) := by decide
/-- T17, T24. -/
theorem test_receive : after .receiveCmd (reading [0x7E] { session .responder .idle with nr := true })
      (fun t => t.sc == .waitDelimiter && t.rxbuf == [] && t.ph == .rxFrame && t.tarmed == false && t.nr == true) ∧
    after .receiveCmd (closed 1 3) (· == closed 1 3) := by decide
/-- T21, T23. -/
theorem test_close : after .closeCmd { session .initiator .idle with retry := 1 }
      (fun t => t.retry == 0 && t.tarmed == true && t.ph == .ciWaitDisc &&
        t.txCalls == [[0x7E, 0x03, 0x0B, 0x08, 0x7E]]) ∧
    after .closeCmd { session .responder .idle with retry := 1 }
      (fun t => t.retry == 0 && t.tarmed == false && t.ph == .crWaitDisc && t.txCalls == []) := by decide

/-! ## Handshake steps -/

/-- S1, and S4 (a wrong address is dropped). -/
theorem test_oiWaitUaRx :
    after (.oiWaitUaRx 0x7E) (reading [0x7E, 0x01, 0x07, 0x06] (session .initiator .oiWaitUa))
      (fun t => t.ph == .idle && t.tarmed == false && t.status == .ok && t.done == 1) ∧
    after (.oiWaitUaRx 0x7E) (reading [0x7E, 0x03, 0x07, 0x04] (session .initiator .oiWaitUa))
      (fun t => t.ph == .oiWaitUa && t.sc == .waitDelimiter && t.done == 0) := by decide
/-- T6, T7. -/
theorem test_oiWaitUaTimeout :
    after .oiWaitUaTimeout (reading [0x7E, 0x01, 0x07] { session .initiator .oiWaitUa with txbuf := encCtrl 3 3 })
      (fun t => t.retry == 1 && t.sc == .waitDelimiter && t.tarmed == true && t.ph == .oiWaitUa &&
        t.txCalls == [[0x7E, 0x03, 0x03, 0x00, 0x7E]]) ∧
    after .oiWaitUaTimeout { session .initiator .oiWaitUa with retry := 2 }
      (fun t => t.status == .connectionTimeout && t.ph == .closed && t.tarmed == false &&
        t.chanHeld == false && t.txCalls == []) := by decide
/-- T10. -/
theorem test_orWaitSetRx :
    after (.orWaitSetRx 0x7E) (reading [0x7E, 0x03, 0x03, 0x00] (session .responder .orWaitSet))
      (fun t => t.ph == .idle && t.status == .ok && t.txCalls == [[0x7E, 0x01, 0x07, 0x06, 0x7E]]) := by decide
/-- S8. -/
theorem test_ciWaitDiscRx :
    after (.ciWaitDiscRx 0x7E) (reading [0x7E, 0x01, 0x0B, 0x0A] (session .initiator .ciWaitDisc))
      (fun t => t.ph == .closed && t.status == .ok && t.tarmed == false && t.chanHeld == false &&
        t.txCalls == [[0x7E, 0x03, 0x07, 0x04, 0x7E]]) ∧
    after (.ciWaitDiscRx 0x7E) (reading [0x7E, 0x01, 0x07, 0x06] (session .initiator .ciWaitDisc))
      (fun t => t.ph == .ciWaitDisc && t.sc == .waitDelimiter && t.txCalls == []) := by decide
/-- T22. -/
theorem test_ciWaitDiscTimeout : after .ciWaitDiscTimeout { session .initiator .ciWaitDisc with retry := 2 }
    (fun t => t.status == .connectionTimeout && t.ph == .closed) := by decide
/-- S8. -/
theorem test_crWaitDiscRx :
    after (.crWaitDiscRx 0x7E) (reading [0x7E, 0x03, 0x0B, 0x08] (session .responder .crWaitDisc))
      (fun t => t.ph == .crWaitUa && t.sc == .waitDelimiter && t.done == 0 &&
        t.txCalls == [[0x7E, 0x01, 0x0B, 0x0A, 0x7E]]) := by decide
/-- S8: a retransmitted DISC is dropped, the final UA closes. -/
theorem test_crWaitUaRx :
    after (.crWaitUaRx 0x7E) (reading [0x7E, 0x03, 0x0B, 0x08] (session .responder .crWaitUa))
      (fun t => t.ph == .crWaitUa && t.sc == .waitDelimiter) ∧
    after (.crWaitUaRx 0x7E) (reading [0x7E, 0x03, 0x07, 0x04] (session .responder .crWaitUa))
      (fun t => t.ph == .closed && t.chanHeld == false && t.status == .ok) := by decide
/-- T9. -/
theorem test_handshakeRxerr : after (.handshakeRxerr ⟨7⟩) (session .initiator .oiWaitUa)
      (fun t => t.status == .channelError ⟨7⟩ && t.ph == .closed && t.tarmed == false &&
        t.chanHeld == false) := by decide

/-! ## ARQ steps -/

/-- S7 (a). -/
theorem test_txWaitAckRxRr :
    after (.txWaitAckRxRr 0x7E) (reading [0x7E, 0x01, 0x05, 0x04] sending)
      (fun t => t.ph == .txWaitAck && t.ns == false && t.sc == .waitDelimiter) ∧
    after (.txWaitAckRxRr 0x7E) (reading [0x7E, 0x01, 0x85, 0x84] sending)
      (fun t => t.ph == .idle && t.ns == true && t.tarmed == false && t.resultLen == 8 &&
        t.status == .ok) := by decide
/-- S7 (b), T16. -/
theorem test_txWaitAckRxRej :
    after (.txWaitAckRxRr 0x7E) (reading [0x7E, 0x01, 0x01, 0x00] sending)
      (fun t => t.rejcnt == 1 && t.retry == 0 && t.tarmed == true && t.sc == .waitDelimiter &&
        t.ph == .txWaitAck && t.txCalls == [[0x7E, 0x03, 0x00, 0x03, 0x48, 0x69, 0x21, 0x7E]]) ∧
    after .txWaitAckRxRej { sending with rejcnt := 2, retry := 1 }
      (fun t => t.status == .transferFailed && t.ph == .closed && t.retry == 1 && t.txCalls == []) := by decide
/-- T14, T15 (with a maximum of 3 in place of 2). -/
theorem test_txWaitAckTimeout :
    after .txWaitAckTimeout (reading [0x7E, 0x01] { sending with rejcnt := 1 })
      (fun t => t.retry == 1 && t.rejcnt == 1 && t.sc == .waitDelimiter && t.tarmed == true &&
        t.txCalls.length == 1) ∧
    after .txWaitAckTimeout { sending with retry := 2 }
      (fun t => t.status == .transferFailed && t.ph == .closed && t.txCalls == []) := by decide
/-- T18, T19. -/
theorem test_rxFrameRx :
    after (.rxFrameRx 0x7E) (reading [0x7E, 0x03, 0x00, 0x02, 0x48, 0x69, 0x21] (session .responder .rxFrame))
      (fun t => t.ph == .idle && t.status == .frameCorruptChecksum1 && t.nr == false &&
        t.sc == .waitDelimiter && t.txCalls == []) ∧
    after (.rxFrameRx 0x7E)
      (reading [0x7E, 0x03, 0x00, 0x03, 0x48, 0x69, 0x20] { session .responder .rxFrame with nr := true })
      (fun t => t.ph == .idle && t.status == .frameCorruptChecksum2 && t.nr == true &&
        t.txCalls == [[0x7E, 0x01, 0x81, 0x80, 0x7E]]) := by decide
/-- S12: a frame with the station's own address, and one with a control byte that is no data code. -/
theorem test_rxFrameRx_dropped :
    after (.rxFrameRx 0x7E) (reading [0x7E, 0x01, 0x00, 0x01, 0x00] (session .responder .rxFrame))
      (fun t => t.ph == .rxFrame && t.done == 0 && t.txCalls == []) ∧
    after (.rxFrameRx 0x7E) (reading [0x7E, 0x03, 0x07, 0x04, 0x00] (session .responder .rxFrame))
      (fun t => t.ph == .rxFrame && t.done == 0 && t.txCalls == []) := by decide
/-- R157. -/
theorem test_rxFrameC2 : after .rxFrameC2 (session .initiator .rxFrame)
      (fun t => t.status == .frameCorruptChecksum2 && t.ph == .idle &&
        t.txCalls == [[0x7E, 0x03, 0x01, 0x02, 0x7E]]) := by decide
/-- S13 (the last step), T20. -/
theorem test_rxFrameAccept :
    after (.rxFrameAccept [0x7D, 0x5E]) { session .initiator .rxFrame with nr := true }
      (fun t => t.nr == false && t.rxpkt == [0x7D, 0x5E] && t.resultLen == 2 && t.status == .ok &&
        t.txCalls == [[0x7E, 0x03, 0x05, 0x06, 0x7E]]) ∧
    after (.rxFrameAccept [1]) { session .initiator .rxFrame with writeAnswers := [.error ⟨2⟩] }
      (fun t => t.nr == false && t.rxpkt == [] && t.status == .channelError ⟨2⟩ && t.ph == .closed) := by decide
/-- S12, the third frame. -/
theorem test_rxFrameDup : after .rxFrameDup { session .responder .rxFrame with rxpkt := [9] }
      (fun t => t.status == .dup && t.nr == false && t.rxpkt == [9] &&
        t.txCalls == [[0x7E, 0x01, 0x05, 0x04, 0x7E]]) := by decide
/-- R160. -/
theorem test_rxFrameC1 : after .rxFrameC1 (session .responder .rxFrame)
      (fun t => t.status == .frameCorruptChecksum1 && t.ph == .idle && t.txCalls == []) := by decide
/-- R161. -/
theorem test_arqRxerr : after (.arqRxerr ⟨3⟩) (session .responder .rxFrame)
      (fun t => t.status == .channelError ⟨3⟩ && t.ph == .closed && t.chanHeld == false) := by decide

/-! ## Timer, completion, channel, resets -/

theorem test_timerArm : after .timerArm State.reset (·.tarmed == true) := by decide
theorem test_timerCancel : after .timerCancel sending (·.tarmed == false) := by decide
/-- T8, T11. -/
theorem test_timeout :
    after .timeout { session .initiator .oiWaitUa with cfg := { Cfg.reset with maxRetries := 0 } }
      (fun t => t.status == .connectionTimeout && t.ph == .closed) ∧
    refusalOf (exec .timeout (session .responder .orWaitSet)) = some .eventNotEnabled := by decide
/-- R175. -/
theorem test_retryStep : after .retryStep sending
      (fun t => t.retry == 1 && t.ph == .txWaitAck && t.tarmed == true) := by
  decide
/-- R181. -/
theorem test_complete : after (.complete .ok (.packet [4, 5])) State.reset
      (fun t => t.status == .ok && t.rxpkt == [4, 5] && t.resultLen == 2) ∧
    after (.complete .dup .none) { State.reset with rxpkt := [6], resultLen := 1 }
      (fun t => t.status == .dup && t.rxpkt == [6] && t.resultLen == 1) := by decide
/-- R182. -/
theorem test_statusCodes : [Status.ok, .connectionTimeout, .transferFailed, .frameCorruptChecksum1, .frameCorruptChecksum2,
    .channelError ⟨1⟩, .invalidRole, .dup].map Status.code = [0, 1, 2, 3, 4, 5, 6, 7] := by decide
/-- R189. -/
theorem test_fatal : after (.fatal .transferFailed) sending
      (fun t => t.status == .transferFailed && t.ph == .closed && t.tarmed == false && t.chanHeld == false &&
        t.done == 1) := by decide
/-- R54. -/
theorem test_chanOpen : after .chanOpen (closed 0 3) (fun t => t.chanHeld == true && t.opResult == .opened .ok) ∧
    after .chanOpen { closed 0 3 with openAnswers := [.error ⟨4⟩] }
      (fun t => t.chanHeld == false && t.opResult == .opened (.error ⟨4⟩)) := by decide
/-- R55, R173. -/
theorem test_chanRead : after .chanRead { sending with inbox := [.rx 5, .rx 6] }
      (fun t => t.inbox == [.rx 6] && t.opResult == .read (.byte 5)) ∧
    refusalOf (exec .chanRead { session .responder .rxFrame with inbox := [.timeout] }) = some .readBlocks := by
  decide
/-- R55, R174: nothing is left behind a frame's last byte, and what the host does meanwhile does not end the read. -/
theorem test_chanRead_passes : after .chanRead { sending with inbox := [.frame [5], .rx 6] }
      (fun t => t.inbox == [.rx 6] && t.opResult == .read (.byte 5)) ∧
    after .chanRead { sending with inbox := [.frame [], .cmd 1, .writeCfg (.role 1), .writeTxpay [9], .rx 6] }
      (fun t => t.inbox == [] && t.opResult == .read (.byte 6) && t.cfg == sending.cfg && t.txpay == [9]) := by decide
/-- R57. -/
theorem test_chanWrite : after (.chanWrite [0x7E, 3, 3, 0, 0x7E]) (closed 0 3)
      (fun t => t.txStream == [0x7E, 3, 3, 0, 0x7E] && t.opResult == .written (.count 5)) ∧
    after (.chanWrite [0x7E, 3, 3, 0, 0x7E]) { closed 0 3 with writeAnswers := [.count 4] } (·.txStream == []) := by
  decide
theorem test_chanRelease : after .chanRelease sending (·.chanHeld == false) := by decide
/-- R40. -/
theorem test_sessionReset : after .sessionReset { sending with ns := true, retry := 2, cfg := { sending.cfg with role := 1 } }
      (fun t => t.role == .responder && t.ns == false && t.retry == 0 && t.txbuf == [] && t.ph == .txWaitAck &&
        t.chanHeld == true) := by decide
/-- R39. -/
theorem test_hwReset : after .hwReset { sending with txCalls := [[1]] }
      (fun t => t.ph == .closed && t.tarmed == false && t.chanHeld == false && t.txbuf == [] &&
        t.txCalls == [[1]]) := by decide

/-! ## Whole frames (the last bytes of S1, S6, S7, S8, S11 arrive in one input) -/

theorem test_set : after .set (session .responder .orWaitSet)
      (fun t => t.ph == .idle && t.txCalls == [[0x7E, 0x01, 0x07, 0x06, 0x7E]]) := by decide
theorem test_set_slipped : after .set (reading [0x7E] (session .responder .orWaitSet))
      (fun t => t.ph == .orWaitSet && t.sc == .reading 1 && t.txCalls == []) := by decide
theorem test_ua : after (.ua .responder) (session .initiator .oiWaitUa)
      (fun t => t.ph == .idle && t.status == .ok) := by
  decide
theorem test_disc : after (.disc .initiator) (session .responder .crWaitDisc)
      (fun t => t.ph == .crWaitUa && t.txCalls == [[0x7E, 0x01, 0x0B, 0x0A, 0x7E]]) := by decide
theorem test_i0 : after (.i0 .initiator [0x48, 0x69]) (session .responder .rxFrame)
    (fun t => t.nr == true && t.rxpkt == [0x48, 0x69] && t.txCalls == [[0x7E, 0x01, 0x85, 0x84, 0x7E]]) := by decide
theorem test_i1 : after (.i1 .initiator []) (session .responder .rxFrame)
      (fun t => t.nr == false && t.status == .dup && t.txCalls == [[0x7E, 0x01, 0x05, 0x04, 0x7E]]) := by decide
theorem test_rr0 : after (.rr0 .responder) { sending with ns := true } (fun t => t.ph == .idle && t.ns == false) := by
  decide
theorem test_rr1 : after (.rr1 .responder) sending (fun t => t.ph == .idle && t.ns == true) := by decide
theorem test_rej0 : after (.rej0 .responder) sending
      (fun t => t.ph == .txWaitAck && t.rejcnt == 1 && t.txCalls.length == 1) := by decide
theorem test_rej1 : after (.rej1 .responder) sending (· == sending) := by decide

/-! ## Steps -/

/-- R25, R20: the last legal and the first illegal moment for a write of `CFG`. -/
theorem test_cfgWrite : afterInput (.writeCfg (.maxRetries 7)) (closed 0 3) (·.cfg.maxRetries == 7) ∧
    afterInput (.writeCfg (.maxRetries 7)) (session .initiator .idle) (·.cfg.maxRetries == 3) := by decide
/-- R34. -/
theorem test_txpayWrite : afterInput (.writeTxpay [1, 2]) sending (·.txpay == [1, 2]) := by decide
/-- R224. -/
theorem test_step_waits : refusalOf (step State.reset) = some .awaitingInput := by decide
/-- S3: a frame that is none of the nine kinds reaches the scanner all the same. -/
theorem test_step_badFrame : afterInput (.frame [0x7E, 0x01, 0x07, 0x07, 0x7E]) (session .initiator .oiWaitUa)
    (fun t => t.ph == .oiWaitUa && t.sc == .waitDelimiter && t.rxbuf == []) := by decide
/-- R55, U7: a byte that finds the block not reading is lost. -/
theorem test_step_lostByte : afterInput (.rx 0x7E) (session .initiator .idle)
      (fun t => t.sc == .waitDelimiter && t.inbox == []) := by decide

/-! ## Witnesses: the hypotheses of every statement that has some can be met, clause by clause -/

theorem witness_DestuffingFollowsItsEquations : (0x41 : Byte) ≠ 0x7D ∧ destuff [0x7D, 0x5E] = some [0x7E] ∧
    destuff [0x41, 0x7D] = none := by decide

theorem witness_DecodingChecksChecksum1First :
    ((0x7E : Byte) ∉ [0x03, 0x00, 0x02, 0x41, 0x41] ∧ ([0x41, 0x41] : Bytes) ≠ [] ∧ (0x02 : Byte) ≠ 0x03 ^^^ 0x00) ∧
    ((0x7E : Byte) ∉ [0x03, 0x00, 0x03, 0x7D] ∧ ([0x7D] : Bytes) ≠ [] ∧ (0x03 : Byte) = 0x03 ^^^ 0x00 ∧
      exec (.destuff [0x7D]) State.reset = .next { State.reset with opResult := .malformed }) ∧
    ((0x7E : Byte) ∉ [0x03, 0x00, 0x03, 0x00] ∧ ([0x00] : Bytes) ≠ [] ∧ (0x03 : Byte) = 0x03 ^^^ 0x00 ∧
      exec (.destuff [0x00]) State.reset = .next { State.reset with opResult := .bytes ([] ++ [0x00]) }) :=
  ⟨by decide, ⟨by decide, by decide, by decide, rfl⟩, by decide, by decide, by decide, rfl⟩

theorem witness_ControlScannerCountsFiveBytes :
    State.reset.sc = .waitDelimiter ∧ (0x01 : Byte) ≠ 0x7E ∧ (0x7E : Byte) = 0x7E ∧
    ((reading [0x7E] State.reset).sc = .reading 1 ∧ 1 + 1 < 5) ∧
    ((reading [0x7E, 1, 7] State.reset).sc = .reading 3 ∧ 3 + 1 < 5) ∧
    ((reading [0x7E, 1, 7, 6] State.reset).sc = .reading 4 ∧
      (reading [0x7E, 1, 7, 6] State.reset).rxbuf ++ [0x7E] ∈ [encCtrl 1 7]) ∧
    (reading [0x7E, 1, 7, 6] State.reset).rxbuf ++ [0x7D] ∉ [encCtrl 1 7] := by decide

theorem witness_DataScannerReadsToTheNextDelimiter :
    State.reset.sc = .waitDelimiter ∧ (0x01 : Byte) ≠ 0x7E ∧
    ((reading [0x7E, 1, 2, 3] State.reset).sc = .reading 4 ∧ 4 + 1 < 6) ∧
    ((reading [0x7E, 1, 2, 3, 4] State.reset).sc = .reading 5 ∧ 6 ≤ 5 + 1) ∧
    ((reading [0x7E, 1, 2, 3, 4, 5, 6] { State.reset with params := capEight }).sc = .reading 7 ∧
      capEight.val.rxCap = some 8 ∧ 8 ≤ 7 + 1) ∧
    ((reading [0x7E, 1, 2, 3, 4, 5] { State.reset with params := capEight }).sc = .reading 6 ∧ 6 + 1 < 8) ∧
    State.reset.p.rxCap = none ∧ ({ State.reset with sc := .overflow }).sc = .overflow := by decide

theorem witness_ChannelCallsGiveTheirAnswers :
    (closed 0 3).openAnswers = OpenAnswer.ok :: [] ∧
    ({ closed 0 3 with openAnswers := [.error ⟨1⟩] }).openAnswers = OpenAnswer.error ⟨1⟩ :: [] ∧
    (closed 0 3).writeAnswers = WriteAnswer.count (encCtrl 3 3).length :: [.count 5, .count 5] ∧
    (4 < (encCtrl 3 3).length ∧ ({ closed 0 3 with writeAnswers := [.count 4] }).writeAnswers = [WriteAnswer.count 4]) ∧
    ({ closed 0 3 with writeAnswers := [.error ⟨1⟩] }).writeAnswers = [WriteAnswer.error ⟨1⟩] := by decide

theorem witness_ChanReadConsumesWhatItReturns :
    sending.ph ≠ .closed ∧ sending.ph ≠ .idle ∧ sending.tarmed = true ∧
    ({ sending with inbox := [.rx 5] }).inbox = Input.rx 5 :: [] ∧
    ({ sending with inbox := [.frame [0x7E]] }).inbox = Input.frame [0x7E] :: [] ∧
    ({ sending with inbox := [.frame [0x7E, 1]] }).inbox = Input.frame (0x7E :: 1 :: []) :: [] ∧
    ({ sending with inbox := [.rxerr ⟨1⟩] }).inbox = Input.rxerr ⟨1⟩ :: [] ∧
    ({ sending with inbox := [.timeout] }).inbox = Input.timeout :: [] ∧ sending.inbox = [] ∧
    ({ sending with inbox := [.cmd 3] }).inbox = Input.cmd 3 :: [] ∧
    ({ sending with inbox := [.frame []] }).inbox = Input.frame [] :: [] ∧
    ({ sending with inbox := [.writeCfg (.role 1)] }).inbox = Input.writeCfg (.role 1) :: [] ∧
    ({ sending with inbox := [.writeTxpay [1]] }).inbox = Input.writeTxpay [1] :: [] ∧
    ({ sending with inbox := [.hwReset] }).inbox = Input.hwReset :: [] ∧
    ((session .responder .rxFrame).ph ≠ .closed ∧ (session .responder .rxFrame).tarmed = false) ∧
    (closed 0 3).ph = .closed ∧ (session .responder .idle).ph = .idle := by decide

theorem witness_CommandsElsewhereAreRefused : (session .initiator .idle).ph ≠ .closed ∧ (closed 0 3).ph ≠ .idle ∧
    sending.ph ≠ .closed ∧ sending.ph ≠ .idle := by decide

theorem witness_ReadErrorsAreFatal : (session .initiator .oiWaitUa).ph = .oiWaitUa ∧
    (session .responder .crWaitUa).ph = .crWaitUa ∧ (session .responder .rxFrame).ph = .rxFrame := by decide

/-- A state whose next write fails. -/
def failing (s : State) : State := { s with writeAnswers := [.error ⟨5⟩] }

/-- A failed write is one the collaborator answers with an error, or with a short count. -/
theorem witness_writeFails (bs : Bytes) (s : State) : writeError bs (failing s) = some ⟨5⟩ ∧
    writeError [1, 2] { s with writeAnswers := [.count 1] } = some (Config.freeShortWriteError s.freeCount) := ⟨rfl, rfl⟩

theorem witness_WriteErrorsAreFatal :
    ((failing (closed 0 3)).ph = .closed ∧ (failing (closed 0 3)).cfg.role = 0 ∧
      openAnswer (failing (closed 0 3)) = .ok ∧ writeError (encCtrl 3 3) (openCalled (failing (closed 0 3))) = some ⟨5⟩) ∧
    ((failing (session .initiator .idle)).ph = .idle ∧ (failing (session .initiator .idle)).role = .initiator ∧
      (failing (session .initiator .idle)).txpay.length ≤ (failing (session .initiator .idle)).p.mss) ∧
    ((failing sending).ph = .txWaitAck ∧ (failing sending).tarmed = true ∧
      (failing sending).retry + 1 < (failing sending).maxRetries ∧
      (failing sending).rejcnt + 1 < (failing sending).maxRetries) ∧
    (failing (session .initiator .oiWaitUa)).ph = .oiWaitUa ∧
    (let s := failing (reading [0x7E, 0x01, 0x01, 0x00] sending)
     s.sc = .reading 4 ∧ s.rxbuf ++ [0x7E] = encCtrl (tag s.p s.role.peer) (if s.ns = true then s.p.cRej1 else s.p.cRej0)) ∧
    (failing (session .responder .rxFrame)).ph = .rxFrame ∧
    ((failing (session .responder .orWaitSet)).Aligned ∧ (failing (session .responder .orWaitSet)).ph = .orWaitSet) ∧
    ((failing (session .initiator .ciWaitDisc)).Aligned ∧ (failing (session .initiator .ciWaitDisc)).ph = .ciWaitDisc) ∧
    ((failing (session .responder .crWaitDisc)).Aligned ∧
      (failing (session .responder .crWaitDisc)).ph = .crWaitDisc) ∧
    (let s := failing (reading [0x7E, 0x03, 0x03, 0x00] (session .responder .orWaitSet))
     s.sc = .reading 4 ∧ s.rxbuf ++ [0x7E] = encCtrl s.p.aIni s.p.cSet) ∧
    (let s := failing (reading [0x7E, 0x01, 0x0B, 0x0A] (session .initiator .ciWaitDisc))
     s.sc = .reading 4 ∧ s.rxbuf ++ [0x7E] = encCtrl s.p.aRsp s.p.cDisc) ∧
    (let s := failing (reading [0x7E, 0x03, 0x0B, 0x08] (session .responder .crWaitDisc))
     s.sc = .reading 4 ∧ s.rxbuf ++ [0x7E] = encCtrl s.p.aIni s.p.cDisc) := by decide

theorem witness_OperationsStopOutsideTheirDomain :
    (closed 0 3).ph ≠ .oiWaitUa ∧ (closed 0 3).ph ≠ .orWaitSet ∧ (closed 0 3).ph ≠ .ciWaitDisc ∧
    (closed 0 3).ph ≠ .crWaitDisc ∧ (closed 0 3).ph ≠ .crWaitUa ∧ (closed 0 3).ph ≠ .txWaitAck ∧
    (closed 0 3).ph ≠ .rxFrame ∧ (closed 0 3).ph = .closed ∧ (closed 0 3).tarmed = false ∧
    ((session .responder .rxFrame).ph ≠ .oiWaitUa ∧ { session .responder .rxFrame with tarmed := true }.tarmed = true ∧
      (session .responder .rxFrame).ph = .rxFrame ∧ (session .responder .orWaitSet).ph = .orWaitSet) ∧
    ([0x7E, 1, 2, 3, 0x7E] : Bytes).length < 6 ∧ ([1, 1, 2, 3, 4, 0x7E] : Bytes).head? ≠ some 0x7E ∧
    ([0x7E, 1, 2, 3, 4, 5] : Bytes).getLast? ≠ some 0x7E ∧
    (0x7E : Byte) ∈ ([0x7E, 1, 0x7E, 3, 4, 0x7E] : Bytes).tail.dropLast := by decide

theorem witness_OpenFailsEarlyWithoutASession : (closed 2 3).ph = .closed ∧ (closed 2 3).cfg.role = 2 ∧
    (closed 3 3).cfg.role = 3 ∧ (closed 1 3).ph = .closed ∧ (closed 1 3).cfg.role = 1 ∧
    ({ closed 1 3 with openAnswers := [.error ⟨1⟩] }).openAnswers = OpenAnswer.error ⟨1⟩ :: [] := by decide

theorem witness_OpenStartsByRole : ((closed 0 3).ph = .closed ∧ (closed 0 3).openAnswers = OpenAnswer.ok :: [] ∧
      (closed 0 3).cfg.role = 0 ∧ (openCalled (closed 0 3)).WriteOk (encCtrl (closed 0 3).p.aIni (closed 0 3).p.cSet)) ∧
    ((closed 1 3).ph = .closed ∧ (closed 1 3).openAnswers = OpenAnswer.ok :: [] ∧ (closed 1 3).cfg.role = 1) := by
  decide

theorem witness_UnmatchedBytesOnlyMoveTheScanner :
    let s := reading [0x7E, 0x03, 0x07, 0x04] (session .initiator .oiWaitUa)
    s.sc = .reading 4 ∧ s.rxbuf ++ [0x7E] ∉ s.awaited ∧ s.ph = .oiWaitUa ∧
    (reading [0x7E] (session .responder .crWaitUa)).sc = .reading 1 ∧ (session .initiator .txWaitAck).sc = .waitDelimiter ∧
    (session .responder .orWaitSet).ph = .orWaitSet ∧ (session .initiator .ciWaitDisc).ph = .ciWaitDisc ∧
    (session .responder .crWaitDisc).ph = .crWaitDisc := by decide

theorem witness_AwaitedFramesCompleteTheInitiator :
    (let s := reading [0x7E, 0x01, 0x07, 0x06] (session .initiator .oiWaitUa)
     s.sc = .reading 4 ∧ s.ph = .oiWaitUa ∧ s.rxbuf ++ [0x7E] = encCtrl s.p.aRsp s.p.cUa) ∧
    (let s := reading [0x7E, 0x01, 0x0B, 0x0A] (session .initiator .ciWaitDisc)
     s.sc = .reading 4 ∧ s.ph = .ciWaitDisc ∧ s.rxbuf ++ [0x7E] = encCtrl s.p.aRsp s.p.cDisc ∧
      s.WriteOk (encCtrl s.p.aIni s.p.cUa)) := by decide

theorem witness_AwaitedFramesMoveTheResponder :
    (let s := reading [0x7E, 0x03, 0x03, 0x00] (session .responder .orWaitSet)
     s.sc = .reading 4 ∧ s.ph = .orWaitSet ∧ s.rxbuf ++ [0x7E] = encCtrl s.p.aIni s.p.cSet ∧
      s.WriteOk (encCtrl s.p.aRsp s.p.cUa)) ∧
    (let s := reading [0x7E, 0x03, 0x0B, 0x08] (session .responder .crWaitDisc)
     s.sc = .reading 4 ∧ s.ph = .crWaitDisc ∧ s.rxbuf ++ [0x7E] = encCtrl s.p.aIni s.p.cDisc ∧
      s.WriteOk (encCtrl s.p.aRsp s.p.cDisc)) ∧
    (let s := reading [0x7E, 0x03, 0x07, 0x04] (session .responder .crWaitUa)
     s.sc = .reading 4 ∧ s.ph = .crWaitUa ∧ s.rxbuf ++ [0x7E] = encCtrl s.p.aIni s.p.cUa) := by decide

theorem witness_CloseStartsByRole :
    (let s := session .initiator .idle
     s.ph = .idle ∧ s.role = .initiator ∧ s.WriteOk (encCtrl s.p.aIni s.p.cDisc)) ∧
    (session .responder .idle).ph = .idle ∧ (session .responder .idle).role = .responder := by decide

theorem witness_ExpiryBelowTheBudgetResends :
    (let s := { session .initiator .oiWaitUa with retry := 1 }
     s.tarmed = true ∧ s.retry + 1 < s.maxRetries ∧ s.WriteOk s.txbuf ∧ s.ph = .oiWaitUa) ∧
    (let s := session .initiator .ciWaitDisc
     s.tarmed = true ∧ s.retry + 1 < s.maxRetries ∧ s.WriteOk s.txbuf ∧ s.ph = .ciWaitDisc) ∧
    (sending.tarmed = true ∧ sending.retry + 1 < sending.maxRetries ∧ sending.WriteOk sending.txbuf ∧
      sending.ph = .txWaitAck) := by decide

theorem witness_ExpiryAtTheBudgetIsFatal :
    (let s := { session .initiator .oiWaitUa with retry := 2 }
     s.tarmed = true ∧ s.maxRetries ≤ s.retry + 1 ∧ s.ph = .oiWaitUa) ∧
    (let s := { session .initiator .ciWaitDisc with retry := 2 }
     s.tarmed = true ∧ s.maxRetries ≤ s.retry + 1 ∧ s.ph = .ciWaitDisc) ∧
    (let s := { sending with retry := 2 }
     s.tarmed = true ∧ s.maxRetries ≤ s.retry + 1 ∧ s.ph = .txWaitAck) := by decide

theorem witness_SendWritesOneDataFrame :
    (let s := { session .initiator .idle with txpay := [0x48, 0x69, 0, 0] }
     s.ph = .idle ∧ s.txpay.length ≤ s.p.mss ∧ s.WriteOk (encData s.p (tag s.p s.role) s.ns s.txpay)) ∧
    (let s := { session .initiator .idle with txpay := [1, 2, 3, 4, 5] }
     s.ph = .idle ∧ s.p.mss < s.txpay.length) := by decide

theorem witness_AwaitedRrCompletesSend :
    let s := reading [0x7E, 0x01, 0x85, 0x84] sending
    s.ph = .txWaitAck ∧ s.sc = .reading 4 ∧
      s.rxbuf ++ [0x7E] = encCtrl (tag s.p s.role.peer) (if s.ns = true then s.p.cRr0 else s.p.cRr1) := by decide

theorem witness_AwaitedRejResendsAtOnce :
    (let s := { reading [0x7E, 0x01, 0x01, 0x00] sending with rejcnt := 1 }
     s.ph = .txWaitAck ∧ s.rejcnt + 1 < s.maxRetries ∧ s.WriteOk s.txbuf ∧ s.sc = .reading 4 ∧
      s.rxbuf ++ [0x7E] = encCtrl (tag s.p s.role.peer) (if s.ns = true then s.p.cRej1 else s.p.cRej0)) ∧
    (let s := { reading [0x7E, 0x01, 0x01, 0x00] sending with rejcnt := 2 }
     s.ph = .txWaitAck ∧ s.maxRetries ≤ s.rejcnt + 1 ∧ s.sc = .reading 4 ∧
      s.rxbuf ++ [0x7E] = encCtrl (tag s.p s.role.peer) (if s.ns = true then s.p.cRej1 else s.p.cRej0)) := by decide

theorem witness_DamagedFramesCompleteWithFrameCorrupt :
    let s := { session .responder .rxFrame with nr := true }
    s.ph = .rxFrame ∧ s.WriteOk (encCtrl (tag s.p s.role) (if s.nr = true then s.p.cRej1 else s.p.cRej0)) := by decide

theorem witness_GoodFramesAreAcknowledged :
    let s := { session .responder .rxFrame with nr := true }
    s.ph = .rxFrame ∧ s.WriteOk (encCtrl (tag s.p s.role) (if s.nr = true then s.p.cRr0 else s.p.cRr1)) ∧
      s.WriteOk (encCtrl (tag s.p s.role) (if s.nr = true then s.p.cRr1 else s.p.cRr0)) := by decide

/-- A RECEIVE whose scanner has read these bytes and waits for the closing delimiter. -/
def receiving (bs : Bytes) : State := reading (0x7E :: bs) (session .responder .rxFrame)

theorem witness_ReceiveClassifiesRunsInOrder :
    (session .responder .idle).ph = .idle ∧
    ((receiving [1]).ph = .rxFrame ∧ (receiving [1]).sc = .reading 2 ∧ 2 + 1 < 6) ∧
    ((receiving [3, 0, 2, 0]).ph = .rxFrame ∧ (receiving [3, 0, 2, 0]).sc = .reading 5 ∧ 6 ≤ 5 + 1 ∧
      decData ((receiving [3, 0, 2, 0]).rxbuf ++ [0x7E]) = .checksum1Mismatch) ∧
    (decData ((receiving [3, 0, 3, 1]).rxbuf ++ [0x7E]) = .checksum2Mismatch 3 0 ∧
      (receiving [3, 0, 3, 1]).sc = .reading 5) ∧
    (decData ((receiving [1, 0, 1, 1]).rxbuf ++ [0x7E]) = .checksum2Mismatch 1 0 ∧
      (1 : Byte) ≠ tag (receiving [1, 0, 1, 1]).p (receiving [1, 0, 1, 1]).role.peer) ∧
    (decData ((receiving [3, 7, 4, 0]).rxbuf ++ [0x7E]) = .data 3 7 [] ∧
      (7 : Byte) ≠ (receiving []).p.cI0 ∧ (7 : Byte) ≠ (receiving []).p.cI1) ∧
    (decData ((receiving [3, 0, 3, 0]).rxbuf ++ [0x7E]) = .data 3 0 [] ∧
      (3 : Byte) = tag (receiving []).p (receiving []).role.peer ∧ (0 : Byte) = (receiving []).p.cI0 ∧
      (receiving []).nr = false) ∧
    (decData ((receiving [3, 0x40, 0x43, 0]).rxbuf ++ [0x7E]) = .data 3 0x40 [] ∧
      (0x40 : Byte) = (receiving []).p.cI1 ∧ (0x40 : Byte) ≠ (receiving []).p.cI0) := by decide

theorem witness_DeliveredHandshakeFramesMoveTheSession :
    ((session .responder .orWaitSet).Aligned ∧ (session .responder .orWaitSet).ph = .orWaitSet ∧
      (session .responder .orWaitSet).WriteOk (encCtrl 1 7)) ∧
    ((session .initiator .oiWaitUa).Aligned ∧ (session .initiator .oiWaitUa).ph = .oiWaitUa) ∧
    ((session .responder .crWaitUa).Aligned ∧ (session .responder .crWaitUa).ph = .crWaitUa) ∧
    ((session .responder .crWaitDisc).Aligned ∧ (session .responder .crWaitDisc).ph = .crWaitDisc ∧
      (session .responder .crWaitDisc).WriteOk (encCtrl 1 0x0B)) ∧
    ((session .initiator .ciWaitDisc).Aligned ∧ (session .initiator .ciWaitDisc).ph = .ciWaitDisc ∧
      (session .initiator .ciWaitDisc).WriteOk (encCtrl 3 7)) := by decide

theorem witness_DeliveredAcknowledgmentsMoveSend :
    (sending.ph = .txWaitAck ∧ sending.Aligned ∧ sending.ns = false ∧ sending.rejcnt + 1 < sending.maxRetries ∧
      sending.WriteOk sending.txbuf) ∧
    (let s := { sending with ns := true }
     s.ph = .txWaitAck ∧ s.Aligned ∧ s.ns = true ∧ s.rejcnt + 1 < s.maxRetries ∧ s.WriteOk s.txbuf) := by decide

theorem witness_DeliveredDataFramesReachTheHost :
    (let s := { session .responder .rxFrame with nr := true }
     s.ph = .rxFrame ∧ s.Aligned ∧ s.WriteOk (encCtrl (tag s.p s.role) s.p.cRr0) ∧ true = s.nr) ∧
    (let s := { session .responder .rxFrame with params := capEight }
     s.ph = .rxFrame ∧ s.Aligned ∧ s.WriteOk (encCtrl (tag s.p s.role) s.p.cRr0) ∧ true ≠ s.nr ∧
      (encData s.p (tag s.p s.role.peer) true [1, 2]).length = 8 ∧ s.p.rxCap = some 8) := by decide

/-- Any run fits an unbounded receive buffer. -/
theorem witness_runFits (n : Nat) : (session .responder .rxFrame).p.runFits n := trivial

theorem witness_UnawaitedFramesAreDroppedSilently :
    (let s := session .initiator .oiWaitUa
     s.Aligned ∧ encode s.p (.ua .initiator) = some (.frame (encCtrl 3 7)) ∧
      (Instr.ua .initiator).format = .ctrl ∧ s.ph.control = true ∧ encCtrl 3 7 ∉ s.awaited ∧
      encode s.p (.i0 .responder [1]) = some (.frame (encData s.p 1 false [1])) ∧ (Instr.i0 .responder [1]).format = .data) ∧
    (let s := session .responder .rxFrame
     s.Aligned ∧ encode s.p .set = some (.frame (encCtrl 3 3)) ∧ Instr.set.format = .ctrl ∧ s.ph = .rxFrame) ∧
    (let s := session .responder .rxFrame
     s.Aligned ∧ encode s.p (.i0 .responder [1]) = some (.frame (encData s.p (tag s.p s.role) false [1])) ∧
      s.ph = .rxFrame) ∧
    (let s := { session .responder .rxFrame with params := capEight }
     s.Aligned ∧ encode s.p (.i0 .initiator [1, 2, 3]) = some (.frame (encData s.p 3 false [1, 2, 3])) ∧
      (encData s.p 3 false [1, 2, 3]).length = 9 ∧ s.p.rxCap = some 8) ∧
    (closed 0 3).ph = .closed ∧ (session .responder .idle).ph = .idle := by decide

theorem witness_AStrayFlagLosesEveryLaterFrame : (session .responder .orWaitSet).ph.control = true ∧
    (session .responder .orWaitSet).Aligned ∧ Instr.set.format = .ctrl := by decide

theorem witness_IllFormedParameterSetsAreRefused : ({ ParamSet.pDefault with aRsp := 0x03 }).check = none ∧
    ParamSet.pDefault.check ≠ none := by decide

theorem witness_DecodingUndoesEncoding : ParamSet.pDefault.Wf ∧
    encode .pDefault (.rej1 .responder) = some (.frame [0x7E, 0x01, 0x81, 0x80, 0x7E]) := by decide

theorem witness_OnlyEncodingsDecode : decode .pDefault (.frame [0x7E, 0x01, 0x81, 0x80, 0x7E]) = .ok (.rej1 .responder) := by
  decide

theorem witness_AStepRunsTheDecodedOperation :
    let s := { session .responder .orWaitSet with inbox := [.frame (encCtrl 3 3), .cmd 2] }
    s.inbox = .frame (encCtrl 3 3) :: [.cmd 2] ∧ decode s.p (.frame (encCtrl 3 3)) = .ok .set := by decide

theorem witness_EventsRunThePhasesOwnStep :
    State.reset.inbox = [] ∧
    ({ sending with inbox := [.rx 0] }).inbox = Input.rx 0 :: [] ∧ sending.ph = .txWaitAck ∧
    (session .initiator .oiWaitUa).ph = .oiWaitUa ∧ (session .responder .orWaitSet).ph = .orWaitSet ∧
    (session .responder .rxFrame).ph = .rxFrame ∧ (session .initiator .ciWaitDisc).ph = .ciWaitDisc ∧
    (session .responder .crWaitDisc).ph = .crWaitDisc ∧ (session .responder .crWaitUa).ph = .crWaitUa ∧
    (closed 0 3).ph = .closed ∧
    ({ sending with inbox := [.timeout] }).inbox = Input.timeout :: [] ∧ sending.tarmed = true ∧
    (closed 0 3).tarmed = false ∧
    ({ sending with inbox := [.rxerr ⟨1⟩] }).inbox = Input.rxerr ⟨1⟩ :: [] ∧
    ({ sending with inbox := [.hwReset] }).inbox = Input.hwReset :: [] := by decide

theorem witness_ConfigIsWrittenOnlyWhileClosed :
    ({ closed 0 3 with inbox := [.writeCfg (.timeout 65535)] }).inbox = Input.writeCfg (.timeout 65535) :: [] ∧
    ({ closed 0 3 with inbox := [.writeTxpay [1]] }).inbox = Input.writeTxpay [1] :: [] ∧
    ({ sending with inbox := [.writeCfg (.baud 1)] }).inbox = Input.writeCfg (.baud 1) :: [] ∧ sending.ph ≠ .closed ∧
    (closed 0 3).ph = .closed ∧ ({ closed 0 3 with inbox := [.writeCfg (.maxRetries 256)] }).inbox =
      Input.writeCfg (.maxRetries 256) :: [] := by decide

theorem witness_AWholeFrameIsItsBytesInOrder :
    ({ sending with inbox := [.frame [0x7E, 1]] }).inbox = Input.frame [0x7E, 1] :: [] := by decide

/-- A timed session meets the invariants, and a step of it answers a next state. -/
theorem witness_EveryStepKeepsTheInvariants :
    Inv { session .initiator .oiWaitUa with txbuf := encCtrl 3 3, inbox := [.timeout] } ∧
    (nextOf (step { session .initiator .oiWaitUa with txbuf := encCtrl 3 3, inbox := [.timeout] })).isSome = true := by
  refine ⟨?_, by decide⟩
  constructor <;> simp [session, closed, State.reset, Cfg.reset, Phase.timed, Phase.control, ParamSet.runFits,
    Params.pDefault, ParamSet.pDefault, State.p, encCtrl]

theorem witness_SendBitTogglesOncePerAcknowledgedFrame :
    let s := { sending with inbox := [.frame (encCtrl 1 0x85)] }
    s.inbox = .frame (encCtrl 1 0x85) :: [] ∧ s.ph = .txWaitAck ∧
      afterInput (.frame (encCtrl 1 0x85)) sending (fun t => t.ns == true && t.ph == .idle) := by decide

theorem witness_SendBit_sessionStart : openAnswer { closed 0 3 with ns := true } = .ok ∧
    afterInput (.cmd 0) { closed 0 3 with ns := true } (fun t => t.ns == false && t.ph == .oiWaitUa) := by decide

theorem witness_ReceiveBitTogglesOncePerDeliveredFrame :
    afterInput (.frame (encData .pDefault 3 false [1])) (session .responder .rxFrame)
      (fun t => t.nr == true && t.ph == .idle && t.status == .ok) ∧
    afterInput (.frame (encData .pDefault 3 true [1])) (session .responder .rxFrame)
      (fun t => t.nr == false && t.ph == .idle && t.status == .dup) := by decide

theorem witness_ConfigurationAndRoleLastForTheSession :
    afterInput (.writeCfg (.role 1)) (closed 0 3) (·.cfg.role == 1) ∧
    afterInput .hwReset sending (·.cfg.maxRetries == 0) ∧
    afterInput (.rx 0x7E) sending (fun t => t.ph == .txWaitAck && t.role == .initiator) := by decide

/-- Two closed states that differ in what the last session left behind; one opens a session, the other waits. -/
theorem witness_NothingSurvivesFromOneSessionToTheNext :
    SameUpToDiscarded { closed 0 3 with inbox := [.cmd 0] }
      ({ closed 0 3 with inbox := [.cmd 0] }.withDiscarded ⟨.responder, true, true, 2, 2, .reading 1, [0x7E], [1]⟩) ∧
    afterInput (.cmd 0) (closed 0 3) (·.ph == .oiWaitUa) ∧ refusalOf (step State.reset) = some .awaitingInput :=
  ⟨.inr ⟨rfl, _, rfl⟩, by decide, by decide⟩

theorem witness_TheTxStreamOnlyGrows :
    afterInput (.cmd 0) (closed 0 3) (·.txCalls == [encCtrl 3 3]) := by decide

theorem witness_EachCommandCompletesOnceOrNever :
    afterInput (.frame (encCtrl 1 0x85)) sending (fun t => t.done == 1 && t.ph == .idle) ∧
    afterInput (.rx 0) sending (fun t => t.done == 0 && t.ph == .txWaitAck) ∧ sending.ph.waiting = true := by decide

theorem witness_OpenSurvivesLostSetFrames :
    (let s := { closed 0 3 with inbox := [.cmd 0, .timeout, .timeout, .frame (encCtrl 1 7)] }
     s.ph = .closed ∧ s.cfg.role = 0 ∧ s.openAnswers = .ok :: [] ∧ 1 ≤ s.maxRetries ∧
      s.writeAnswers = List.replicate s.maxRetries (.count 5) ++ [] ∧ 2 < s.maxRetries ∧
      s.inbox = .cmd 0 :: (List.replicate 2 .timeout ++ .frame (encCtrl s.p.aRsp s.p.cUa) :: [])) ∧
    (let s := { closed 0 3 with inbox := [.cmd 0, .timeout, .timeout, .timeout] }
     s.inbox = .cmd 0 :: (List.replicate s.maxRetries .timeout ++ [])) := by decide

/-- One acknowledgment lost and one corrupted below the budget of three, and three failures that use it up; every write
succeeds. -/
theorem witness_SendSurvivesLostAcknowledgments :
    let base := { session .initiator .idle with txpay := [0x48, 0x69], writeAnswers := [.count 8, .count 8, .count 8] }
    let rr := encCtrl (tag base.p base.role.peer) (cRr base.p (!base.ns))
    let rej := encCtrl (tag base.p base.role.peer) (cRej base.p base.ns)
    let bad : Bytes := [0x7E, 0x01, 0x85, 0x04, 0x7E]
    (base.ph = .idle ∧ base.txpay.length ≤ base.p.mss ∧ base.maxRetries = 3 ∧
      base.writeAnswers =
        List.replicate base.maxRetries (.count (encData base.p (tag base.p base.role) base.ns base.txpay).length) ++ []) ∧
    (bad.length = 5 ∧ bad.head? = some 0x7E ∧ bad ≠ rr ∧ bad ≠ rej) ∧
    ([none, some bad].length < base.maxRetries ∧
      { base with inbox := [.cmd 1, .timeout, .frame bad, .timeout, .frame rr] }.inbox = .cmd 1 ::
        (([none, some bad].flatMap fun a => (a.map Input.frame).toList ++ [Input.timeout]) ++ .frame rr :: [])) ∧
    ([none, some bad, none].length = base.maxRetries ∧
      { base with inbox := [.cmd 1, .timeout, .frame bad, .timeout, .timeout] }.inbox = .cmd 1 ::
        (([none, some bad, none].flatMap fun a => (a.map Input.frame).toList ++ [Input.timeout]) ++ [])) := by decide

theorem witness_AReplayedFrameIsDeliveredOnce :
    let f := encData ParamSet.pDefault 3 false [0x48, 0x69]
    let s := { session .responder .idle with
               writeAnswers := [.count 5, .count 5]
               inbox := [.cmd 2, .frame f, .cmd 2, .frame f] }
    s.ph = .idle ∧ s.writeAnswers = .count 5 :: .count 5 :: [] ∧ f = encData s.p (tag s.p s.role.peer) s.nr [0x48, 0x69] ∧
      s.inbox = .cmd 2 :: .frame f :: .cmd 2 :: .frame f :: [] := by decide

end Sys2Proof.Tests
end

/-! Proofs of the family `00_scope.md`: which parameters a block can have, which operation an input starts, and what a
whole frame in one input stands for. -/

namespace Sys2Proof

/-! ## Parameters (R9) -/

/-- Only a well-formed parameter set is taken. -/
@[simp] theorem ParamSet.check_eq_none_iff (p : ParamSet) : p.check = none ↔ ¬ p.Wf := by
  by_cases h : p.Wf <;> simp [ParamSet.check, h]

/-- R9 (c), told apart into addresses, control codes and checksum1 values. -/
theorem ParamSet.headerBytes_ne_flag_iff (p : ParamSet) : (∀ b ∈ p.headerBytes, b ≠ FLAG) ↔
    ∀ a ∈ p.addresses, a ≠ FLAG ∧ ∀ c ∈ p.controls, c ≠ FLAG ∧ a ^^^ c ≠ FLAG := by
  simp only [ParamSet.headerBytes, List.mem_append, List.mem_flatMap, List.mem_map]
  constructor
  · intro h a ha
    exact ⟨h a (.inl (.inl ha)), fun c hc => ⟨h c (.inl (.inr hc)), h _ (.inr ⟨a, ha, c, hc, rfl⟩)⟩⟩
  · rintro h b ((ha | hc) | ⟨a, ha, c, hc, rfl⟩)
    · exact (h b ha).1
    · exact ((h p.aIni (by simp [ParamSet.addresses])).2 b hc).1
    · exact ((h a ha).2 c hc).2

/-- Settles O1: `check` refuses what is not `Wf`, and `Wf` is R9 (a), (b), (c) and the bound of R52. -/
theorem illFormedParameterSetsAreRefused : Obligations.IllFormedParameterSetsAreRefused := by
  intro p
  rw [ParamSet.check_eq_none_iff, ParamSet.Wf, ParamSet.headerBytes_ne_flag_iff]
  rfl

/-! ## Delimited runs (R110) -/

theorem isRun_eq_false_iff (raw : Bytes) : isRun raw = false ↔
    raw.length < DATA_MIN_LEN ∨ raw.head? ≠ some FLAG ∨ raw.getLast? ≠ some FLAG ∨ FLAG ∈ raw.tail.dropLast := by
  simp only [isRun, Bool.and_eq_false_iff, decide_eq_false_iff_not, Nat.not_le, beq_eq_false_iff_ne,
    Bool.not_eq_false', List.contains_iff_mem, or_assoc]

end Sys2Proof

namespace Sys2Proof.Machine

open Sys2Proof

/-! ## Which operation an input starts (R11, R30) -/

theorem step_of_noInput {s : State} (h : s.inbox = []) : step s = .refused .awaitingInput := by
  simp [step, h]

theorem step_of_inputInstr {s : State} {e : Input} {rest : List Input} {i : Instr} (h : s.inbox = e :: rest)
    (hi : inputInstr s e = some i) : step s = exec i { s with inbox := rest } := by
  simp [step, h, hi]

theorem step_of_noInstr {s : State} {e : Input} {rest : List Input} (h : s.inbox = e :: rest)
    (hi : inputInstr s e = none) : step s = .next (inputAlone { s with inbox := rest } e) := by
  simp [step, h, hi]

/-- An input the decoder reads as an operation starts that operation, in every state. -/
theorem inputInstr_of_decode {s : State} {e : Input} {i : Instr} (h : decode s.p e = .ok i) :
    inputInstr s e = some i := by
  cases e with
  | cmd code => simpa [decode, inputInstr] using h
  | frame bs =>
    have hd : decodeFrame s.p bs = .ok i := h
    simp [inputInstr, hd, Except.toOption]
  | rx | timeout | rxerr | writeCfg | writeTxpay | hwReset => cases h

/-- Settles O44: what an input decodes to is what it starts. -/
theorem aStepRunsTheDecodedOperation : Obligations.AStepRunsTheDecodedOperation :=
  fun _ _ _ _ hin hd => step_of_inputInstr hin (inputInstr_of_decode hd)

/-- In the seven waiting phases `RXERR` starts the error step of the phase's family (R141, R161). -/
theorem rxerrInstr_of_handshake {ph : Phase} (h : ph.handshake = true) (e : ChanErr) :
    rxerrInstr ph e = some (.handshakeRxerr e) := by
  simp [rxerrInstr, h]

theorem rxerrInstr_of_arq {ph : Phase} (h : ph.arq = true) (e : ChanErr) :
    rxerrInstr ph e = some (.arqRxerr e) := by
  cases ph <;> simp_all [rxerrInstr, Phase.handshake, Phase.arq]

/-- In a timed phase with the timer armed the event runs the phase's retry step (R173, R175). -/
theorem exec_timeout_of_armed {s : State} (ha : s.tarmed = true) (ht : s.ph.timed = true) :
    exec .timeout s = .next (phaseRetry s) := by
  simp [exec, execTimeout, whenEnabled, ha, ht]

theorem step_of_armedTimeout {s : State} {rest : List Input} (h : s.inbox = .timeout :: rest)
    (ha : s.tarmed = true) (ht : s.ph.timed = true) : step s = exec .timeout { s with inbox := rest } := by
  rw [step_eq s _ _ h, exec_timeout_of_armed (s := { s with inbox := rest }) ha ht]
  simp [inputResult, ha]

/-- Settles O45: each event starts the operation of the phase it finds, or none. -/
theorem eventsRunThePhasesOwnStep : Obligations.EventsRunThePhasesOwnStep := by
  intro s b e rest t
  refine ⟨step_of_noInput, fun hin => ?_, fun hin => ?_, fun hin => ?_, fun hin => step_of_inputInstr hin rfl⟩
  · have own {i : Instr} (hi : rxInstr s.ph b = some i) : step s = exec i t := step_of_inputInstr hin hi
    have lost (hi : rxInstr s.ph b = none) : step s = .next t := step_of_noInstr hin hi
    refine ⟨fun hp => own ?_, fun hp => own ?_, fun hp => own ?_, fun hp => own ?_, fun hp => own ?_,
      fun hp => own ?_, fun hp => own ?_, ?notReading⟩
    case notReading => rintro (hp | hp) <;> exact lost (by rw [hp]; rfl)
    all_goals rw [hp]; rfl
  · refine ⟨fun ha hp => step_of_armedTimeout hin ha ?_, fun ha => step_of_noInstr hin ?_⟩
    · rcases hp with hp | hp | hp <;> rw [hp] <;> rfl
    · simp [inputInstr, timeoutInstr, ha]
  · refine ⟨fun hp => step_of_inputInstr hin (rxerrInstr_of_arq ?_ e),
      fun hp => step_of_inputInstr hin (rxerrInstr_of_handshake ?_ e), fun hp => step_of_noInstr hin ?_⟩
    · rcases hp with hp | hp <;> rw [hp] <;> rfl
    · rcases hp with hp | hp | hp | hp | hp <;> rw [hp] <;> rfl
    · rcases hp with hp | hp <;> simp [inputInstr, rxerrInstr, hp, Phase.handshake, Phase.arq]

/-! ## Where a step is not taken (R11, R173, R110) -/

theorem whenEnabled_of_false {c : Bool} (h : c = false) (t : State) :
    whenEnabled c t = .refused .eventNotEnabled := by
  simp [whenEnabled, h]

/-- A step of one phase is not taken in another. -/
theorem whenEnabled_of_ne {ph p : Phase} (h : ph ≠ p) (t : State) :
    whenEnabled (ph == p) t = .refused .eventNotEnabled :=
  whenEnabled_of_false (beq_false_of_ne h) t

/-- An expiry of one phase is not taken in another, nor with the timer off. -/
theorem whenEnabled_armed {ph p : Phase} {armed : Bool} (h : ph ≠ p ∨ armed = false) (t : State) :
    whenEnabled (ph == p && armed) t = .refused .eventNotEnabled :=
  whenEnabled_of_false (by rcases h with h | h <;> simp [h]) t

theorem timed_eq_false_iff (ph : Phase) :
    ph.timed = false ↔ ph ≠ .oiWaitUa ∧ ph ≠ .ciWaitDisc ∧ ph ≠ .txWaitAck := by
  cases ph <;> decide

theorem exec_timeout_refused {s : State} (h : s.tarmed = false ∨ s.ph.timed = false) :
    exec .timeout s = .refused .eventNotEnabled :=
  whenEnabled_of_false (by rcases h with h | h <;> simp [h]) _

theorem exec_decData_refused {raw : Bytes} (h : isRun raw = false) (s : State) :
    exec (.decData raw) s = .refused .operandIllFormed := by
  simp [exec, execDecData, h]

/-- Settles O21: the condition of every step named is false outside its domain. -/
theorem operationsStopOutsideTheirDomain : Obligations.OperationsStopOutsideTheirDomain := by
  intro b e pl raw s
  have retry (h : s.ph.timed = false) : exec .retryStep s = .refused .eventNotEnabled := whenEnabled_of_false h _
  have handshake (h : s.ph.handshake = false) : exec (.handshakeRxerr e) s = .refused .eventNotEnabled :=
    whenEnabled_of_false h _
  have arq (h : s.ph.arq = false) : exec (.arqRxerr e) s = .refused .eventNotEnabled := whenEnabled_of_false h _
  refine ⟨fun h => whenEnabled_of_ne h _, fun h => whenEnabled_of_ne h _, fun h => whenEnabled_of_ne h _,
    fun h => whenEnabled_of_ne h _, fun h => whenEnabled_of_ne h _,
    fun h => ⟨whenEnabled_of_ne h _, whenEnabled_of_ne h _⟩,
    fun h => ⟨whenEnabled_of_ne h _, whenEnabled_of_ne h _, whenEnabled_of_ne h _, whenEnabled_of_ne h _,
      whenEnabled_of_ne h _⟩, ?notWaiting, fun h => whenEnabled_armed (.inl h) _, fun h => whenEnabled_armed (.inl h) _,
    fun h => whenEnabled_armed (.inl h) _, ?untimed, ?notHandshake, ?notArq, ?disarmed, ?notRun⟩
  case notWaiting => rintro (h | h) <;> exact ⟨handshake (by rw [h]; rfl), arq (by rw [h]; rfl), retry (by rw [h]; rfl)⟩
  case untimed =>
    intro h1 h2 h3
    have ht := (timed_eq_false_iff s.ph).2 ⟨h1, h2, h3⟩
    exact ⟨exec_timeout_refused (.inr ht), retry ht⟩
  case notHandshake => rintro (h | h) <;> exact handshake (by rw [h]; rfl)
  case notArq => rintro (h | h | h | h | h) <;> exact arq (by rw [h]; rfl)
  case disarmed =>
    exact fun h => ⟨exec_timeout_refused (.inl h), whenEnabled_armed (.inr h) _, whenEnabled_armed (.inr h) _,
      whenEnabled_armed (.inr h) _⟩
  case notRun => exact fun h => exec_decData_refused ((isRun_eq_false_iff raw).2 h) s

/-! ## A whole frame and its bytes (R11, R79) -/

/-- The same state with another list of inputs to come. -/
def State.withInbox (l : List Input) (s : State) : State := { s with inbox := l }

/-- What `f` does neither reads nor writes the list of inputs. -/
def IgnoresInbox (f : State → State) : Prop :=
  ∀ (s : State) (l : List Input), f (s.withInbox l) = (f s).withInbox l

section
variable (l : List Input) (s : State)

@[simp] theorem withInbox_ph : (s.withInbox l).ph = s.ph := rfl
@[simp] theorem withInbox_p : (s.withInbox l).p = s.p := rfl
@[simp] theorem withInbox_nr : (s.withInbox l).nr = s.nr := rfl
@[simp] theorem withInbox_pa : pa (s.withInbox l) = pa s := rfl
@[simp] theorem withInbox_expectedRr : expectedRr (s.withInbox l) = expectedRr s := rfl

end

theorem ignoresInbox_writeThen {k : State → State} (hk : IgnoresInbox k) (bs : Bytes) :
    IgnoresInbox (writeThen bs k) := fun s l => by
  obtain ⟨h, hok⟩ | ⟨e, h, herr⟩ := writeThen_cases bs k s
  · rw [hok, writeThen_ok bs k (s.withInbox l) h]
    exact hk (sent bs s) l
  · rw [herr, writeThen_error bs k (s.withInbox l) e h]
    rfl

theorem ignoresInbox_writeThenArm : IgnoresInbox writeThenArm := fun s l =>
  ignoresInbox_writeThen (k := fun t => scannerReset (timerArm t)) (fun _ _ => rfl) s.txbuf s l

theorem rejMatched_fatal (s : State) (h : s.maxRetries ≤ s.rejcnt + 1) :
    rejMatched s = fatal .transferFailed { timerCancel s with rejcnt := s.rejcnt + 1 } := if_pos h

theorem rejMatched_resend (s : State) (h : ¬ s.maxRetries ≤ s.rejcnt + 1) :
    rejMatched s = writeThenArm { timerCancel s with rejcnt := s.rejcnt + 1 } := if_neg h

theorem ignoresInbox_rejMatched : IgnoresInbox rejMatched := fun s l => by
  by_cases h : s.maxRetries ≤ s.rejcnt + 1
  · rw [rejMatched_fatal s h, rejMatched_fatal (s.withInbox l) h]; rfl
  · rw [rejMatched_resend s h, rejMatched_resend (s.withInbox l) h]
    exact ignoresInbox_writeThenArm { timerCancel s with rejcnt := s.rejcnt + 1 } l

theorem ignoresInbox_rxFrameAccept (pl : Bytes) : IgnoresInbox (rxFrameAccept pl) := fun s l =>
  ignoresInbox_writeThen (k := fun t => complete .ok (.packet pl) (goto .idle (toggleNr t))) (fun _ _ => rfl) _ s l

theorem ignoresInbox_rxFrameDup : IgnoresInbox rxFrameDup := fun s l =>
  ignoresInbox_writeThen (k := fun t => complete .dup .none (goto .idle t)) (fun _ _ => rfl) _ s l

theorem ignoresInbox_rxFrameC2 : IgnoresInbox rxFrameC2 := fun s l =>
  ignoresInbox_writeThen (k := fun t => complete .frameCorruptChecksum2 .none (goto .idle t)) (fun _ _ => rfl) _ s l

theorem ignoresInbox_classify (d : Decoded) : IgnoresInbox (classify d) := fun s l => by
  cases d with
  | checksum1Mismatch => rfl
  | checksum2Mismatch a c =>
    simp only [classify, withInbox_p, withInbox_pa, ignoresInbox_rxFrameC2 s l]
    split
    · rfl
    · exact (apply_ite (State.withInbox l) ..).symm
  | data a c pl =>
    simp only [classify, withInbox_p, withInbox_pa, withInbox_nr, ignoresInbox_rxFrameAccept pl s l,
      ignoresInbox_rxFrameDup s l]
    split
    · rfl
    · simp only [apply_ite (State.withInbox l)]

/-- What each control-scanner phase does once its scanner holds the awaited frame `t` (R133, R135, R137, R139, R140,
R153). -/
def onMatch (t : Bytes) (m : State) : State :=
  match m.ph with
  | .oiWaitUa => complete .ok .none (goto .idle (timerCancel m))
  | .orWaitSet => writeThen (uaFrame m.p .responder) (fun u => complete .ok .none (goto .idle u)) m
  | .ciWaitDisc =>
    writeThen (uaFrame m.p .initiator) (fun u => complete .ok .none (goto .closed (chanRelease u))) (timerCancel m)
  | .crWaitDisc => writeThen (discFrame m.p .responder) (fun u => goto .crWaitUa (scannerReset u)) m
  | .crWaitUa => complete .ok .none (goto .closed (chanRelease m))
  | .txWaitAck => if t = expectedRr m then ackAccepted m else rejMatched m
  | .closed | .idle | .rxFrame => m

/-- The byte that completes an awaited frame moves the scanner and runs the phase's own branch. -/
theorem rxByte_match (b : Byte) (s : State) (t : Bytes) (hc : s.ph.control = true)
    (h : cscanResult b s.awaited s = some t) : rxByte b s = onMatch t (afterCscan b s.awaited s) := by
  have hm : (afterCscan b s.awaited s).ph = s.ph := rfl
  cases hp : s.ph
  case closed | idle | rxFrame => simp [hp, Phase.control] at hc
  all_goals
    simp only [State.awaited, hp] at h hm ⊢
    simp only [rxByte, hp, oiWaitUaRx, orWaitSetRx, txWaitAckRx, ciWaitDiscRx, crWaitDiscRx, crWaitUaRx, ackTemplates,
      expectedRr, expectedRej, template, h, onMatch, hm] <;> rfl

theorem ignoresInbox_onMatch (t : Bytes) : IgnoresInbox (onMatch t) := fun s l => by
  cases hp : s.ph <;> simp only [onMatch, withInbox_ph, hp]
  case orWaitSet =>
    exact ignoresInbox_writeThen (k := fun u => complete .ok .none (goto .idle u)) (fun _ _ => rfl) _ s l
  case ciWaitDisc =>
    exact ignoresInbox_writeThen (k := fun u => complete .ok .none (goto .closed (chanRelease u))) (fun _ _ => rfl) _
      (timerCancel s) l
  case crWaitDisc =>
    exact ignoresInbox_writeThen (k := fun u => goto .crWaitUa (scannerReset u)) (fun _ _ => rfl) _ s l
  case txWaitAck =>
    rw [withInbox_expectedRr, ignoresInbox_rejMatched s l, apply_ite (State.withInbox l)]
    rfl
  all_goals rfl

theorem ignoresInbox_rxByte (b : Byte) : IgnoresInbox (rxByte b) := fun s l => by
  cases hc : s.ph.control with
  | true =>
    cases h : cscanResult b s.awaited s with
    | none => rw [rxByte_noMatch b s hc h, rxByte_noMatch b (s.withInbox l) hc h]; rfl
    | some t =>
      rw [rxByte_match b s t hc h, rxByte_match b (s.withInbox l) t hc h]
      exact ignoresInbox_onMatch t (afterCscan b s.awaited s) l
  | false =>
    by_cases hp : s.ph = .rxFrame
    · cases h : dscanResult b s with
      | none => rw [rxByte_noFrame b s hp h, rxByte_noFrame b (s.withInbox l) hp h]; rfl
      | some raw =>
        rw [rxByte_frame b s raw hp h, rxByte_frame b (s.withInbox l) raw hp h]
        exact ignoresInbox_classify (decData raw) (afterDscan b s) l
    · have hn : s.ph = .closed ∨ s.ph = .idle := by cases h : s.ph <;> simp_all [Phase.control]
      rw [rxByte_notReading b s hn, rxByte_notReading b (s.withInbox l) hn]

/-- A step on a listed byte receives it and leaves the inputs behind it. -/
theorem step_rx (b : Byte) (s : State) (l : List Input) :
    step (s.withInbox (.rx b :: l)) = .next ((rxByte b s).withInbox l) := by
  rw [← ignoresInbox_rxByte b s l]
  exact step_eq (s.withInbox (.rx b :: l)) (.rx b) l rfl

theorem run_succ_of_next {M : Host.Core} {s s' : M.State} (k : Nat) (h : M.step s = .next s') :
    M.run (k + 1) s = M.run k s' := by
  simp [Host.Core.run, h]

/-- As many steps as there are bytes listed receive those bytes. -/
theorem run_rx (bs : Bytes) (s : State) (rest : List Input) :
    core.run bs.length (s.withInbox (bs.map .rx ++ rest)) = .next (rxBytes bs (s.withInbox rest)) := by
  induction bs generalizing s with
  | nil => rfl
  | cons b bs ih =>
    have hstep : core.step (s.withInbox (.rx b :: (bs.map .rx ++ rest))) =
        .next ((rxByte b s).withInbox (bs.map .rx ++ rest)) := step_rx b s _
    rw [rxBytes_cons, ignoresInbox_rxByte b s rest]
    exact (run_succ_of_next bs.length hstep).trans (ih (rxByte b s))

/-- Settles O47, by induction on the bytes of the frame. -/
theorem aWholeFrameIsItsBytesInOrder : Obligations.AWholeFrameIsItsBytesInOrder :=
  fun s f rest h => (step_eq s _ _ h).trans (run_rx f s rest).symm

end Sys2Proof.Machine

/-! Proofs of the family `10_state.md`: the resets, the host's registers, and what every step keeps. -/

namespace Sys2Proof.Machine

open Sys2Proof

/-! ## Resets and host registers (R39, R40, R25, R34) -/

/-- Settles O2: each element of the table is a field of the reset state, and HW_RESET writes that state over all but
`params` and what stands around the block. -/
theorem hardwareResetLeavesTheResetTable : Obligations.HardwareResetLeavesTheResetTable :=
  ⟨⟨rfl, rfl, rfl, rfl, rfl, rfl, rfl, rfl, rfl, rfl⟩, fun s =>
    ⟨hwReset s, rfl, rfl, rfl, rfl, rfl, rfl, rfl, rfl, rfl, rfl, rfl, rfl, rfl, rfl, rfl⟩⟩

/-- Settles O3: the row is `sessionReset`, whose record update is the list of R40. -/
theorem sessionResetWritesTheSessionState : Obligations.SessionResetWritesTheSessionState :=
  fun _ => rfl

theorem hostWriteCfg_of_closed {s : State} (h : s.ph = .closed) (w : CfgWrite) :
    hostWriteCfg w s = { s with cfg := s.cfg.write s.p w } := if_pos h

theorem hostWriteCfg_of_open {s : State} (h : s.ph ≠ .closed) (w : CfgWrite) : hostWriteCfg w s = s := if_neg h

/-- A write of `CFG` taken while closed. -/
theorem step_writeCfg_of_closed {s : State} {w : CfgWrite} {rest : List Input} (h : s.inbox = .writeCfg w :: rest)
    (hp : s.ph = .closed) : step s = .next { s with inbox := rest, cfg := s.cfg.write s.p w } := by
  rw [step_eq s _ _ h]
  exact congrArg Host.Outcome.next (hostWriteCfg_of_closed (s := { s with inbox := rest }) hp w)

/-- Settles O46: a write of `CFG` is refused in every phase but `CLOSED`, where each field takes its value. -/
theorem configIsWrittenOnlyWhileClosed : Obligations.ConfigIsWrittenOnlyWhileClosed := by
  intro s w bs rest
  refine ⟨fun h hp => ?_, fun _ => step_writeCfg_of_closed, fun _ => step_writeCfg_of_closed,
    fun _ => step_writeCfg_of_closed, fun _ => step_writeCfg_of_closed, fun _ => step_writeCfg_of_closed,
    fun h => step_eq s _ _ h⟩
  rw [step_eq s _ _ h]
  exact congrArg Host.Outcome.next (hostWriteCfg_of_open (s := { s with inbox := rest }) hp w)

/-! ## What a received byte does, as a rule for proofs -/

/-- A delimited run is what the scanner has read and the delimiter; the scanner is reset with it (R113). -/
theorem dscanResult_some {b : Byte} {s : State} {raw : Bytes} (h : dscanResult b s = some raw) :
    (∃ i, s.sc = .reading i) ∧ raw.length = s.rxbuf.length + 1 ∧ afterDscan b s = setScan .waitDelimiter [] s := by
  unfold dscanResult dscanFrame at h
  split at h
  case h_1 i hs =>
    split at h
    · rename_i hb
      subst hb
      split at h
      · cases h
      · rename_i hi
        cases h
        exact ⟨⟨i, hs⟩, by simp [bufAppend], (dscan_close s i hs (Nat.not_lt.1 hi)).2⟩
    · cases h
  all_goals cases h

/-- To show `P` of the state after a byte, show it for each thing a byte can do: move the control scanner, complete an
awaited frame, move the data scanner, delimit a run, or be lost. -/
theorem rxByte_rule {P : State → Prop} (b : Byte) (s : State)
    (scan : s.ph.control = true → cscanResult b s.awaited s = none → P (afterCscan b s.awaited s))
    (awaited : ∀ t, s.ph.control = true → t ∈ s.awaited → P (onMatch t (setScan .matched t s)))
    (read : s.ph = .rxFrame → dscanResult b s = none → P (afterDscan b s))
    (run : ∀ raw, s.ph = .rxFrame → dscanResult b s = some raw →
      P (classify (decData raw) (setScan .waitDelimiter [] s)))
    (lost : s.ph = .closed ∨ s.ph = .idle → P s) : P (rxByte b s) := by
  cases hc : s.ph.control with
  | true =>
    cases h : cscanResult b s.awaited s with
    | none => rw [rxByte_noMatch b s hc h]; exact scan hc h
    | some t =>
      obtain ⟨ht, -, hm⟩ := cscanResult_some b _ s t h
      rw [rxByte_match b s t hc h, hm]
      exact awaited t hc ht
  | false =>
    by_cases hp : s.ph = .rxFrame
    · cases h : dscanResult b s with
      | none => rw [rxByte_noFrame b s hp h]; exact read hp h
      | some raw =>
        obtain ⟨-, -, hm⟩ := dscanResult_some h
        rw [rxByte_frame b s raw hp h, hm]
        exact run raw hp h
    · have hn : s.ph = .closed ∨ s.ph = .idle := by cases h : s.ph <;> simp_all [Phase.control]
      rw [rxByte_notReading b s hn]
      exact lost hn

/-! ## Bounds on the scanner (R31, R52, R113) -/

/-- What holds of `SC` and `RXBUF` in every phase. -/
structure ScanBounds (p : ParamSet) (sc : Scan) (buf : Bytes) : Prop where
  reading : ∀ i, sc = .reading i → buf.length = i ∧ 1 ≤ i ∧ buf.head? = some FLAG
  cleared : sc = .waitDelimiter ∨ sc = .overflow → buf = []
  fits : p.runFits buf.length

/-- Where the scanner of a control-scanner phase stands. -/
def ControlScan (sc : Scan) : Prop := sc = .waitDelimiter ∨ ∃ i, i ≤ 4 ∧ sc = .reading i

/-- Where the scanner of `RX_FRAME` stands. -/
structure DataScan (p : ParamSet) (sc : Scan) (buf : Bytes) : Prop where
  notMatched : sc ≠ .matched
  oneFlag : ∀ i, sc = .reading i → FLAG ∉ buf.tail
  room : ∀ i, sc = .reading i → p.runFits (i + 1)

theorem runFits_zero (p : ParamSet) : p.runFits 0 := by
  unfold ParamSet.runFits
  cases p.rxCap <;> simp

/-- Every block has room for a control frame and two bytes more (R52). -/
theorem runFits_seven (p : Params) : p.val.runFits 7 := runFits_mono _ (runFits_of_wf _ p.2) (by omega)

theorem scanBounds_waitDelimiter (p : ParamSet) : ScanBounds p .waitDelimiter [] :=
  ⟨nofun, fun _ => rfl, runFits_zero p⟩

theorem scanBounds_overflow (p : ParamSet) : ScanBounds p .overflow [] := ⟨nofun, fun _ => rfl, runFits_zero p⟩

theorem scanBounds_matched {p : ParamSet} {t : Bytes} (h : p.runFits t.length) : ScanBounds p .matched t :=
  ⟨nofun, nofun, h⟩

theorem scanBounds_flag (p : Params) : ScanBounds p.val (.reading 1) [FLAG] :=
  ⟨by rintro i ⟨⟩; simp, nofun, runFits_mono _ (runFits_seven p) (by simp)⟩

/-- A byte may be appended while there is room for it. -/
theorem ScanBounds.append {p : ParamSet} {i : Nat} {buf : Bytes} (h : ScanBounds p (.reading i) buf) (b : Byte)
    (hf : p.runFits (i + 1)) : ScanBounds p (.reading (i + 1)) (buf ++ [b]) := by
  obtain ⟨hlen, hpos, hhead⟩ := h.reading i rfl
  refine ⟨?_, nofun, by simpa [hlen] using hf⟩
  rintro j ⟨⟩
  exact ⟨by simp [hlen], by omega, by simp [List.head?_append, hhead]⟩

theorem dataScan_waitDelimiter (p : ParamSet) : DataScan p .waitDelimiter [] := ⟨nofun, nofun, nofun⟩

theorem dataScan_overflow (p : ParamSet) : DataScan p .overflow [] := ⟨nofun, nofun, nofun⟩

theorem dataScan_flag (p : Params) : DataScan p.val (.reading 1) [FLAG] :=
  ⟨nofun, by simp, by rintro i ⟨⟩; exact runFits_mono _ (runFits_seven p) (by omega)⟩

/-- Another byte keeps the room of R113 as long as R113 sees room. -/
theorem DataScan.append {p : ParamSet} {i : Nat} {buf : Bytes} {b : Byte} (h : DataScan p (.reading i) buf)
    (hne : buf ≠ []) (hb : b ≠ FLAG) (hr : noRoom p i = false) :
    DataScan p (.reading (i + 1)) (buf ++ [b]) := by
  refine ⟨nofun, ?_, ?_⟩ <;> rintro j ⟨⟩
  · have := h.oneFlag i rfl
    simp [List.tail_append_of_ne_nil hne, this, hb.symm]
  · exact (noRoom_eq_false p i).1 hr

/-! ## Building the invariant (R41) -/

/-- What holds of `CFG`, `TXBUF` and `RXPKT` in every phase (R23, R24, R52, R53). -/
structure DataBounds (p : ParamSet) (cfg : Cfg) (txbuf rxpkt : Bytes) : Prop where
  txFits : txbuf.length ≤ 2 * p.mss + 7
  packetFits : rxpkt = [] ∨ p.runFits (rxpkt.length + 6)
  widths : cfg.maxRetries < 2 ^ p.wRetry ∧ cfg.timeout < 2 ^ p.wTimeout

/-- `TXBUF` may be written anew with a frame that fits. -/
theorem DataBounds.withTxbuf {p : ParamSet} {cfg : Cfg} {tx pkt f : Bytes} (h : DataBounds p cfg tx pkt)
    (hf : f.length ≤ 2 * p.mss + 7) : DataBounds p cfg f pkt := ⟨hf, h.packetFits, h.widths⟩

/-- The part of the invariant that speaks of no phase. -/
def State.Bounded (s : State) : Prop := ScanBounds s.p s.sc s.rxbuf ∧ DataBounds s.p s.cfg s.txbuf s.rxpkt

/-- What holds of a session in each of its phases: the channel is held, the counters are below `MAX_RETRIES`, and the
buffers fit. -/
def State.Live (s : State) : Prop :=
  s.chanHeld = true ∧ (s.retry < max s.maxRetries 1 ∧ s.rejcnt < max s.maxRetries 1) ∧
    DataBounds s.p s.cfg s.txbuf s.rxpkt

/-- What a phase says of `ROLE`, `NS` and `TXBUF` (R26, R30, R32). -/
structure PhaseOk (ph : Phase) (p : ParamSet) (role : Role) (ns : SeqBit) (txbuf : Bytes) : Prop where
  initiator : ph = .oiWaitUa ∨ ph = .ciWaitDisc → role = .initiator
  responder : ph = .orWaitSet ∨ ph = .crWaitDisc ∨ ph = .crWaitUa → role = .responder
  opening : ph = .oiWaitUa → txbuf = encCtrl p.aIni p.cSet
  closing : ph = .ciWaitDisc → txbuf = encCtrl p.aIni p.cDisc
  sending : ph = .txWaitAck → ∃ pl : Bytes, pl.length ≤ p.mss ∧ txbuf = encData p (tag p role) ns pl

section
variable {s : State}

theorem State.Bounded.scan (h : s.Bounded) : ScanBounds s.p s.sc s.rxbuf := h.1
theorem State.Bounded.data (h : s.Bounded) : DataBounds s.p s.cfg s.txbuf s.rxpkt := h.2

theorem State.Live.held (h : s.Live) : s.chanHeld = true := h.1
theorem State.Live.counters (h : s.Live) : s.retry < max s.maxRetries 1 ∧ s.rejcnt < max s.maxRetries 1 := h.2.1
theorem State.Live.data (h : s.Live) : DataBounds s.p s.cfg s.txbuf s.rxpkt := h.2.2

@[simp] theorem scannerReset_eq (s : State) : scannerReset s = setScan .waitDelimiter [] s := rfl

/-! Which updates leave `Bounded` and `Live` as they are. -/

@[simp] theorem bounded_chanRelease : (chanRelease s).Bounded ↔ s.Bounded := .rfl
@[simp] theorem bounded_goto (ph : Phase) : (goto ph s).Bounded ↔ s.Bounded := .rfl
@[simp] theorem bounded_sent (bs : Bytes) : (sent bs s).Bounded ↔ s.Bounded := .rfl
@[simp] theorem bounded_openCalled : (openCalled s).Bounded ↔ s.Bounded := .rfl
@[simp] theorem bounded_complete_none (st : Status) : (complete st .none s).Bounded ↔ s.Bounded := .rfl

@[simp] theorem live_timerArm : (timerArm s).Live ↔ s.Live := .rfl
@[simp] theorem live_timerCancel : (timerCancel s).Live ↔ s.Live := .rfl
@[simp] theorem live_toggleNs : (toggleNs s).Live ↔ s.Live := .rfl
@[simp] theorem live_toggleNr : (toggleNr s).Live ↔ s.Live := .rfl
@[simp] theorem live_goto (ph : Phase) : (goto ph s).Live ↔ s.Live := .rfl
@[simp] theorem live_setScan (sc : Scan) (buf : Bytes) : (setScan sc buf s).Live ↔ s.Live := .rfl
@[simp] theorem live_sent (bs : Bytes) : (sent bs s).Live ↔ s.Live := .rfl


theorem Inv.bounded (h : Inv s) : s.Bounded :=
  ⟨⟨h.reading, h.cleared, h.rxFits⟩, h.txFits, h.packetFits, h.widths⟩

theorem Inv.live (h : Inv s) (hp : s.ph ≠ .closed) : s.Live :=
  ⟨by simp [h.channel, hp], h.counters hp, h.bounded.data⟩

theorem Inv.phaseOk (h : Inv s) : PhaseOk s.ph s.p s.role s.ns s.txbuf :=
  ⟨h.initiator, h.responder, h.txFrame.1, h.txFrame.2.1, h.txFrame.2.2⟩

/-- The list of inputs and `TXPAY` are no part of the invariant. -/
theorem Inv.withInputs (h : Inv s) (l : List Input) (bs : Bytes) : Inv { s with inbox := l, txpay := bs } := { h with }

theorem inv_of_closed (hp : s.ph = .closed) (ht : s.tarmed = false) (hc : s.chanHeld = false) (hb : s.Bounded) :
    Inv s where
  timer := by rw [ht, hp]; rfl
  channel := by simp [hc, hp]
  counters h := absurd hp h
  reading := hb.scan.reading
  cleared := hb.scan.cleared
  controlScan h := by simp [hp, Phase.control] at h
  dataScan h := by simp [hp] at h
  initiator h := by simp [hp] at h
  responder h := by simp [hp] at h
  txFrame := by simp [hp]
  txFits := hb.data.txFits
  rxFits := hb.scan.fits
  rxRoom h := by simp [hp] at h
  packetFits := hb.data.packetFits
  widths := hb.data.widths

theorem State.Live.inv (hl : s.Live) (hp : s.ph ≠ .closed) (ht : s.tarmed = s.ph.timed)
    (ho : PhaseOk s.ph s.p s.role s.ns s.txbuf)
    (hs : ScanBounds s.p s.sc s.rxbuf) (hc : s.ph.control = true → ControlScan s.sc)
    (hd : s.ph = .rxFrame → DataScan s.p s.sc s.rxbuf) : Inv s where
  timer := ht
  channel := by simp [hl.held, hp]
  counters _ := hl.counters
  reading := hs.reading
  cleared := hs.cleared
  controlScan := hc
  dataScan h := ⟨(hd h).notMatched, (hd h).oneFlag⟩
  initiator := ho.initiator
  responder := ho.responder
  txFrame := ⟨ho.opening, ho.closing, ho.sending⟩
  txFits := hl.data.txFits
  rxFits := hs.fits
  rxRoom h := (hd h).room
  packetFits := hl.data.packetFits
  widths := hl.data.widths

/-- A phase that begins or begins again has its scanner in `WaitDelimiter` (R114). -/
theorem State.Live.inv_aligned (hl : s.Live) (ha : s.Aligned) (hp : s.ph ≠ .closed) (ht : s.tarmed = s.ph.timed)
    (ho : PhaseOk s.ph s.p s.role s.ns s.txbuf) : Inv s := by
  obtain ⟨hsc, hbuf⟩ := ha
  refine hl.inv hp ht ho ?_ (fun _ => .inl hsc) ?_ <;> rw [hsc, hbuf]
  · exact scanBounds_waitDelimiter _
  · exact fun _ => dataScan_waitDelimiter _

theorem State.Live.inv_goto (hl : s.Live) (ha : s.Aligned) {ph : Phase} (hp : ph ≠ .closed)
    (ht : s.tarmed = ph.timed) (ho : PhaseOk ph s.p s.role s.ns s.txbuf) : Inv (goto ph s) :=
  State.Live.inv_aligned (s := goto ph s) hl ha hp ht ho

theorem inv_fatal (st : Status) (h : s.Bounded) : Inv (fatal st s) := inv_of_closed rfl rfl rfl h

/-- A command that completes in `IDLE` leaves the invariants whole if its packet fits. -/
theorem State.Live.inv_complete (hl : s.Live) (ht : s.tarmed = false) (hs : ScanBounds s.p s.sc s.rxbuf) (st : Status)
    (res : CmdResult) (hres : ∀ pl, res = .packet pl → pl = [] ∨ s.p.runFits (pl.length + 6)) :
    Inv (complete st res (goto .idle s)) := by
  obtain ⟨hheld, hcount, hdata⟩ := hl
  have hpkt : (complete st res (goto .idle s)).rxpkt = [] ∨
      s.p.runFits ((complete st res (goto .idle s)).rxpkt.length + 6) := by
    cases res with
    | none | bytesWritten => exact hdata.packetFits
    | packet pl => exact hres pl rfl
  exact State.Live.inv ⟨hheld, hcount, hdata.txFits, hpkt, hdata.widths⟩ nofun ht
    ⟨nofun, nofun, nofun, nofun, nofun⟩ hs nofun nofun

/-- A write keeps the invariants if what follows it does: when it fails the session ends. -/
theorem inv_writeThen {bs : Bytes} {k : State → State} (hb : s.Bounded) (hk : Inv (k (sent bs s))) :
    Inv (writeThen bs k s) := by
  obtain ⟨-, h⟩ | ⟨e, -, h⟩ := writeThen_cases bs k s
  · rw [h]; exact hk
  · rw [h]; exact inv_fatal (s := writeCalled s) _ hb

end

/-! ## What the shared operations keep -/

section
variable {s : State}

/-- Moving the scanner of a session keeps the invariants if it stays where its phase allows. -/
theorem Inv.setScan (h : Inv s) {sc : Scan} {buf : Bytes} (hp : s.ph ≠ .closed) (hs : ScanBounds s.p sc buf)
    (hc : s.ph.control = true → ControlScan sc) (hd : s.ph = .rxFrame → DataScan s.p sc buf) :
    Inv (setScan sc buf s) :=
  State.Live.inv (h.live hp) hp h.timer h.phaseOk hs hc hd

theorem control_ne_closed {ph : Phase} (h : ph.control = true) : ph ≠ .closed ∧ ph ≠ .rxFrame := by
  constructor <;> rintro rfl <;> simp [Phase.control] at h

/-- A byte that completes no awaited frame leaves the control scanner within R31. -/
theorem Inv.afterCscan (h : Inv s) (b : Byte) (ts : List Bytes) (hc : s.ph.control = true)
    (hn : cscanResult b ts s = none) : Inv (afterCscan b ts s) := by
  obtain ⟨hp, hr⟩ := control_ne_closed hc
  have move {sc : Scan} {buf : Bytes} (hs : ScanBounds s.p sc buf) (hcs : ControlScan sc) :
      Inv (Machine.setScan sc buf s) :=
    h.setScan hp hs (fun _ => hcs) (absurd · hr)
  rcases h.controlScan hc with hw | ⟨i, hi, hsc⟩
  · by_cases hb : b = FLAG
    · subst hb
      rw [(cscan_flag ts s hw).2]
      exact move (scanBounds_flag s.params) (.inr ⟨1, by omega, rfl⟩)
    · rw [(cscan_ignore b ts s hw hb).2]
      exact h
  · by_cases hlt : i + 1 < 5
    · rw [(cscan_reading b ts s i hsc hlt).2]
      have hs := h.bounded.scan
      rw [hsc] at hs
      exact move (hs.append b (runFits_mono _ (runFits_seven s.params) (by omega))) (.inr ⟨i + 1, by omega, rfl⟩)
    · obtain rfl : i = 4 := by omega
      by_cases hm : s.rxbuf ++ [b] ∈ ts
      · rw [(cscan_match b ts s hsc hm).1] at hn
        cases hn
      · rw [(cscan_noMatch b ts s hsc hm).2]
        exact move (scanBounds_waitDelimiter _) (.inl rfl)

/-- A byte that delimits no run leaves the data scanner within R31 and R113. -/
theorem Inv.afterDscan (h : Inv s) (b : Byte) (hp : s.ph = .rxFrame) : Inv (afterDscan b s) := by
  have move {sc : Scan} {buf : Bytes} (hs : ScanBounds s.p sc buf) (hds : DataScan s.p sc buf) :
      Inv (Machine.setScan sc buf s) :=
    h.setScan (by simp [hp]) hs (by simp [hp, Phase.control]) (fun _ => hds)
  have hs := h.bounded.scan
  have hds : DataScan s.p s.sc s.rxbuf := ⟨(h.dataScan hp).1, (h.dataScan hp).2, h.rxRoom hp⟩
  unfold Machine.afterDscan
  cases hsc : s.sc <;> rw [hsc] at hs hds
  case waitDelimiter =>
    obtain hbuf := h.cleared (.inl hsc)
    rw [hbuf] at hs hds ⊢
    by_cases hb : b = FLAG <;> simp only [dscanNext, hb, if_true, if_false]
    · exact move (scanBounds_flag s.params) (dataScan_flag s.params)
    · exact move hs hds
  case reading i =>
    by_cases hb : b = FLAG <;> simp only [dscanNext, hb, if_true, if_false]
    · exact move (scanBounds_waitDelimiter _) (dataScan_waitDelimiter _)
    · cases hr : noRoom s.p i
      · have hne : s.rxbuf ≠ [] := List.ne_nil_of_length_pos (by have := hs.reading i rfl; omega)
        exact move (hs.append b (hds.room i rfl)) (hds.append hne hb hr)
      · exact move (scanBounds_overflow _) (dataScan_overflow _)
  case overflow =>
    obtain hbuf := h.cleared (.inr hsc)
    rw [hbuf] at hs hds ⊢
    by_cases hb : b = FLAG <;> simp only [dscanNext, hb, if_true, if_false]
    · exact move (scanBounds_waitDelimiter _) (dataScan_waitDelimiter _)
    · exact move hs hds
  case matched => exact absurd rfl hds.notMatched

theorem timed_ne_closed {ph : Phase} (h : ph.timed = true) : ph ≠ .closed := by
  rintro rfl
  cases h

/-- A timed phase that has written its frame again waits as before (R154, R155, R175). -/
theorem State.Live.inv_rearmed (hl : s.Live) (ht : s.ph.timed = true) (ho : PhaseOk s.ph s.p s.role s.ns s.txbuf) :
    Inv (scannerReset (timerArm s)) :=
  State.Live.inv_aligned (by simpa) ⟨rfl, rfl⟩ (timed_ne_closed ht) ht.symm ho

theorem State.Live.inv_writeThenArm (hl : s.Live) (ht : s.ph.timed = true) (ho : PhaseOk s.ph s.p s.role s.ns s.txbuf)
    (hs : ScanBounds s.p s.sc s.rxbuf) : Inv (writeThenArm s) :=
  inv_writeThen ⟨hs, hl.data⟩ (State.Live.inv_rearmed (s := sent s.txbuf s) hl ht ho)

theorem State.Live.inv_armThenWrite (hl : s.Live) (ht : s.ph.timed = true)
    (ho : PhaseOk s.ph s.p s.role s.ns s.txbuf) : Inv (armThenWrite s) :=
  inv_writeThen (k := id) ⟨scanBounds_waitDelimiter _, hl.data⟩
    (State.Live.inv_rearmed (s := sent s.txbuf s) hl ht ho)

/-- The retry step keeps the invariants if what it resends with does (R175). -/
theorem inv_retryWith (err : Status) {resend : State → State} (h : Inv s) (hp : s.ph ≠ .closed)
    (hr : State.Live { s with tarmed := false, retry := s.retry + 1 } →
      Inv (resend { s with tarmed := false, retry := s.retry + 1 })) : Inv (retryWith err resend s) := by
  by_cases hm : s.maxRetries ≤ s.retry + 1
  · rw [retryWith_fatal err resend s hm]
    exact inv_fatal (s := { s with tarmed := false, retry := s.retry + 1 }) _ h.bounded
  · rw [retryWith_resend err resend s (Nat.not_le.1 hm)]
    obtain ⟨hheld, hcount, hdata⟩ := h.live hp
    exact hr ⟨hheld, ⟨lt_max_of_lt_left (Nat.not_le.1 hm), hcount.2⟩, hdata⟩

theorem inv_phaseRetry (h : Inv s) : Inv (phaseRetry s) := by
  unfold phaseRetry
  cases hp : s.ph
  case oiWaitUa | ciWaitDisc =>
    exact inv_retryWith _ h (by simp [hp]) fun hl => hl.inv_armThenWrite (by simp [hp, Phase.timed]) h.phaseOk
  case txWaitAck =>
    exact inv_retryWith _ h (by simp [hp]) fun hl =>
      hl.inv_writeThenArm (by simp [hp, Phase.timed]) h.phaseOk h.bounded.scan
  all_goals exact h

/-! ## What a received byte keeps -/

/-- The reply that completes the Initiator's CLOSE (R137). -/
theorem State.Bounded.inv_replyThenClose (h : s.Bounded) (ht : s.tarmed = false) (bs : Bytes) :
    Inv (writeThen bs (fun u => complete .ok .none (goto .closed (chanRelease u))) s) :=
  inv_writeThen h (inv_of_closed (by simp) (by simpa) (by simp) (by simpa))

/-- The reply after which the Responder waits for the last UA (R139). -/
theorem State.Live.inv_replyThenWaitUa (hl : s.Live) (ht : s.tarmed = false) (hs : ScanBounds s.p s.sc s.rxbuf)
    (hr : s.role = .responder) (bs : Bytes) : Inv (writeThen bs (fun u => goto .crWaitUa (scannerReset u)) s) :=
  inv_writeThen ⟨hs, hl.data⟩ (State.Live.inv_goto (by simpa) ⟨rfl, rfl⟩ nofun (by simpa)
    ⟨nofun, fun _ => by simpa, nofun, nofun, nofun⟩)

/-- A reply that completes the command in `IDLE` (R135, R157, R159). -/
theorem State.Live.inv_replyThenComplete (hl : s.Live) (ht : s.tarmed = false) (hs : ScanBounds s.p s.sc s.rxbuf)
    (bs : Bytes) (st : Status) : Inv (writeThen bs (fun t => complete st .none (goto .idle t)) s) :=
  inv_writeThen ⟨hs, hl.data⟩ (State.Live.inv_complete (s := sent bs s) hl ht hs st .none nofun)

theorem length_of_mem_awaited {t : Bytes} (h : t ∈ s.awaited) : t.length = 5 := by
  unfold State.awaited at h
  cases hp : s.ph <;> simp only [hp, List.mem_cons, List.not_mem_nil, or_false] at h
  case txWaitAck => rcases h with rfl | rfl <;> rfl
  all_goals subst h; rfl

/-- A REJ of the running SEND keeps the invariants: counted and resent, or the session ends (R154). -/
theorem State.Live.inv_rejMatched (hl : s.Live) (ht : s.ph.timed = true)
    (ho : PhaseOk s.ph s.p s.role s.ns s.txbuf) (hs : ScanBounds s.p s.sc s.rxbuf) : Inv (rejMatched s) := by
  obtain ⟨hheld, hcount, hdata⟩ := hl
  by_cases hm : s.maxRetries ≤ s.rejcnt + 1
  · rw [rejMatched_fatal s hm]
    exact inv_fatal (s := { timerCancel s with rejcnt := s.rejcnt + 1 }) _ ⟨hs, hdata⟩
  · rw [rejMatched_resend s hm]
    exact State.Live.inv_writeThenArm (s := { timerCancel s with rejcnt := s.rejcnt + 1 })
      ⟨hheld, ⟨hcount.1, lt_max_of_lt_left (Nat.not_le.1 hm)⟩, hdata⟩ ht ho hs

/-- What a control-scanner phase does with the frame it awaits keeps the invariants. -/
theorem inv_onMatch (t : Bytes) (hl : s.Live) (ht : s.tarmed = s.ph.timed) (ho : PhaseOk s.ph s.p s.role s.ns s.txbuf)
    (hs : ScanBounds s.p s.sc s.rxbuf) (hc : s.ph.control = true) : Inv (onMatch t s) := by
  cases hp : s.ph <;> simp only [onMatch, hp]
  case oiWaitUa => exact State.Live.inv_complete (s := timerCancel s) hl rfl hs .ok .none nofun
  case orWaitSet =>
    exact hl.inv_replyThenComplete (by simp [ht, hp, Phase.timed]) hs _ .ok
  case ciWaitDisc =>
    exact State.Bounded.inv_replyThenClose (s := timerCancel s) ⟨hs, hl.data⟩ rfl _
  case crWaitDisc =>
    have hr : s.role = .responder := ho.responder (.inr (.inl hp))
    exact hl.inv_replyThenWaitUa (by simp [ht, hp, Phase.timed]) hs hr _
  case crWaitUa => exact inv_of_closed rfl (by simp [ht, hp, Phase.timed]) rfl ⟨hs, hl.data⟩
  case txWaitAck =>
    split
    · exact State.Live.inv_complete (s := timerCancel (toggleNs s)) hl rfl hs .ok (.bytesWritten _) nofun
    · exact hl.inv_rejMatched (by simp [hp, Phase.timed]) ho hs
  case closed | idle | rxFrame => simp [hp, Phase.control] at hc

/-- A delivered payload fits `RXPKT`: it is six bytes shorter than a run that fits `RXBUF` (R53). -/
theorem packetFits_of_run {p : ParamSet} {raw pl : Bytes} {a c : Byte} (h : decData raw = .data a c pl)
    (hf : p.runFits raw.length) : pl = [] ∨ p.runFits (pl.length + 6) :=
  (decData_data_length raw a c pl h).elim (fun hl => .inr (runFits_mono p hf hl)) .inl

/-- Classifying a run that fits keeps the invariants, whichever class it is (R156). -/
theorem inv_classify {raw : Bytes} (h : Inv s) (hp : s.ph = .rxFrame) (hf : s.p.runFits raw.length) :
    Inv (classify (decData raw) s) := by
  have hl := h.live (by simp [hp])
  have ht : s.tarmed = false := by simp [h.timer, hp, Phase.timed]
  cases hd : decData raw with
  | checksum1Mismatch => exact hl.inv_complete ht h.bounded.scan _ .none nofun
  | checksum2Mismatch a c =>
    simp only [classify]
    split
    · exact h
    · split
      · exact hl.inv_replyThenComplete ht h.bounded.scan _ _
      · exact h
  | data a c pl =>
    simp only [classify]
    split
    · exact h
    · split
      · split
        · have hfits : ∀ pl', CmdResult.packet pl = .packet pl' → pl' = [] ∨ s.p.runFits (pl'.length + 6) := by
            rintro _ ⟨⟩
            exact packetFits_of_run hd hf
          exact inv_writeThen h.bounded
            (State.Live.inv_complete (by simpa) (by simpa) (by simpa using h.bounded.scan) .ok _ hfits)
        · exact hl.inv_replyThenComplete ht h.bounded.scan _ _
      · exact h

theorem inv_rxByte (b : Byte) (h : Inv s) : Inv (rxByte b s) := by
  refine rxByte_rule b s (fun hc hn => h.afterCscan b _ hc hn) (fun t hc ht => ?_) (fun hp _ => h.afterDscan b hp)
    (fun raw hp hraw => ?_) (fun _ => h)
  · have hfit : s.p.runFits t.length := runFits_mono _ (runFits_seven s.params) (by simp [length_of_mem_awaited ht])
    exact inv_onMatch (s := setScan .matched t s) t (h.live (control_ne_closed hc).1) h.timer h.phaseOk
      (scanBounds_matched hfit) hc
  · obtain ⟨⟨i, hsc⟩, hlen, -⟩ := dscanResult_some hraw
    have hfit : s.p.runFits raw.length := by
      rw [hlen, (h.reading i hsc).1]
      exact h.rxRoom hp i hsc
    exact inv_classify (s := setScan .waitDelimiter [] s) (h.setScan (by simp [hp]) (scanBounds_waitDelimiter _)
      (fun _ => .inl rfl) (fun _ => dataScan_waitDelimiter _)) hp hfit

theorem inv_rxBytes (bs : Bytes) (h : Inv s) : Inv (rxBytes bs s) := by
  induction bs generalizing s with
  | nil => exact h
  | cons b bs ih => exact ih (inv_rxByte b h)

/-! ## What commands and host writes keep -/

/-- OPEN on an acquired channel begins a session that meets the invariants, whatever the last one left behind (R40). -/
theorem inv_openSession (hd : DataBounds s.p s.cfg s.txbuf s.rxpkt) : Inv (openSession s) := by
  have hlive : State.Live (sessionReset (chanHold s)) := ⟨rfl, by simp, hd.withTxbuf (by simp)⟩
  unfold openSession
  by_cases hr : s.cfg.role = 0
  · simp only [sessionReset_role, chanHold_cfg, hr, if_true, openInitiator]
    have hd' : DataBounds s.p s.cfg (setFrame s.p) s.rxpkt := hd.withTxbuf (by simp [setFrame, encCtrl])
    exact inv_writeThen ⟨scanBounds_waitDelimiter _, hd'⟩
      (State.Live.inv_goto ⟨rfl, by simp, hd'⟩ ⟨rfl, rfl⟩ nofun rfl ⟨fun _ => rfl, nofun, fun _ => rfl, nofun, nofun⟩)
  · simp only [sessionReset_role, chanHold_cfg, hr, if_false]
    exact hlive.inv_goto ⟨rfl, rfl⟩ nofun rfl ⟨nofun, fun _ => if_neg hr, nofun, nofun, nofun⟩

theorem inv_openStep (h : Inv s) (hp : s.ph = .closed) : Inv (openStep s) := by
  have ht : s.tarmed = false := by simp [h.timer, hp, Phase.timed]
  have hc : s.chanHeld = false := by simp [h.channel, hp]
  have hb := h.bounded
  unfold openStep
  split
  · exact inv_of_closed (by simpa) (by simpa) (by simpa) (by simpa)
  · split
    · exact inv_of_closed (by simpa) (by simpa) (by simpa) (by simpa)
    · exact inv_openSession (s := openCalled s) hb.data

/-- SEND writes a frame that fits `TXBUF`, since its payload has at most `MSS` bytes (R150, R52). -/
theorem inv_sendStep (h : Inv s) (hp : s.ph = .idle) (hm : s.txpay.length ≤ s.p.mss) : Inv (sendStep s) := by
  obtain ⟨hheld, -, hdata⟩ := h.live (by simp [hp])
  have hlen := (length_encData s.p (me s) s.ns s.txpay).2
  have hd : DataBounds s.p s.cfg (encData s.p (me s) s.ns s.txpay) s.rxpkt := hdata.withTxbuf (by omega)
  have hlive : State.Live { clearCounters s with txbuf := encData s.p (me s) s.ns s.txpay } := ⟨hheld, by simp, hd⟩
  exact inv_writeThen (k := fun u => goto .txWaitAck (scannerReset (timerArm u))) ⟨h.bounded.scan, hlive.data⟩
    (State.Live.inv_goto (by simpa) ⟨rfl, rfl⟩ nofun rfl
      ⟨nofun, nofun, nofun, nofun, fun _ => ⟨s.txpay, hm, by simp [me]⟩⟩)

theorem inv_closeInitiator (h : Inv s) (hp : s.ph = .idle) (hr : s.role = .initiator) : Inv (closeInitiator s) := by
  obtain ⟨hheld, -, hdata⟩ := h.live (by simp [hp])
  have hd : DataBounds s.p s.cfg (discFrame s.p .initiator) s.rxpkt := hdata.withTxbuf (by simp [discFrame, encCtrl])
  have hlive : State.Live { scannerReset (clearCounters s) with txbuf := discFrame s.p .initiator } :=
    ⟨hheld, by simp, hd⟩
  exact inv_writeThen (k := goto .ciWaitDisc) ⟨scanBounds_waitDelimiter _, hd⟩
    (State.Live.inv_goto (by simpa) ⟨rfl, rfl⟩ nofun rfl ⟨fun _ => by simpa, nofun, nofun, fun _ => rfl, nofun⟩)

theorem inv_closeResponder (h : Inv s) (hp : s.ph = .idle) (hr : s.role = .responder) : Inv (closeResponder s) := by
  obtain ⟨hheld, -, hdata⟩ := h.live (by simp [hp])
  have hlive : State.Live (scannerReset (clearCounters s)) := ⟨hheld, by simp, hdata⟩
  exact hlive.inv_goto ⟨rfl, rfl⟩ nofun (by simp [h.timer, hp, Phase.timed])
    ⟨nofun, fun _ => by simpa, nofun, nofun, nofun⟩

theorem inv_receiveStart (h : Inv s) (hp : s.ph = .idle) : Inv (goto .rxFrame (scannerReset s)) :=
  have hl := h.live (by simp [hp])
  State.Live.inv_goto (by simpa) ⟨rfl, rfl⟩ nofun (by simp [h.timer, hp, Phase.timed])
    ⟨nofun, nofun, nofun, nofun, nofun⟩

theorem inv_cmdResult (code : BitVec 2) (h : Inv s) : Inv (cmdResult code s) := by
  unfold cmdResult
  split
  · split
    · exact inv_openStep h ‹_›
    · exact h
  split
  · split
    · rename_i hsend
      exact inv_sendStep h hsend.1 hsend.2
    · exact h
  split
  · split
    · exact inv_receiveStart h ‹_›
    · exact h
  split
  · cases hr : s.role
    · exact inv_closeInitiator h ‹_› hr
    · exact inv_closeResponder h ‹_› hr
  · exact h

theorem DataBounds.write {p : ParamSet} {cfg : Cfg} {tx pkt : Bytes} (h : DataBounds p cfg tx pkt) (w : CfgWrite) :
    DataBounds p (cfg.write p w) tx pkt := by
  have fits (w n : Nat) : fitWidth w n < 2 ^ w := Nat.mod_lt _ (Nat.two_pow_pos w)
  refine ⟨h.txFits, h.packetFits, ?_⟩
  obtain ⟨hm, ht⟩ := h.widths
  cases w with
  | role | channelId | baud => exact ⟨hm, ht⟩
  | maxRetries n => exact ⟨fits _ n, ht⟩
  | timeout n => exact ⟨hm, fits _ n⟩

theorem inv_hostWriteCfg (w : CfgWrite) (h : Inv s) : Inv (hostWriteCfg w s) := by
  by_cases hp : s.ph = .closed
  · rw [hostWriteCfg_of_closed hp]
    exact inv_of_closed hp (by simp [h.timer, hp, Phase.timed]) (by simp [h.channel, hp])
      ⟨h.bounded.scan, h.bounded.data.write w⟩
  · rw [hostWriteCfg_of_open hp]
    exact h

end

theorem inv_hwReset (s : State) : Inv (hwReset s) :=
  inv_of_closed rfl rfl rfl ⟨scanBounds_waitDelimiter _, Nat.zero_le _, .inl rfl, Nat.two_pow_pos _, Nat.two_pow_pos _⟩

/-- Settles O48: the reset state is what HW_RESET makes of itself. -/
theorem resetMeetsTheInvariants : Obligations.ResetMeetsTheInvariants := inv_hwReset State.reset

theorem inv_inputResult {s : State} (e : Input) (h : Inv s) : Inv (inputResult e s) := by
  cases e with
  | cmd code => exact inv_cmdResult code h
  | frame bs => exact inv_rxBytes bs h
  | rx b => exact inv_rxByte b h
  | timeout =>
    simp only [inputResult]
    split
    · exact inv_phaseRetry h
    · exact h
  | rxerr e =>
    simp only [inputResult]
    split
    · exact inv_fatal _ h.bounded
    · exact h
  | writeCfg w => exact inv_hostWriteCfg w h
  | writeTxpay bs => exact h.withInputs _ bs
  | hwReset => exact inv_hwReset s

/-- A step takes the first input listed and does what it does. -/
theorem step_next_cases {s t : State} (h : step s = .next t) :
    ∃ e rest, s.inbox = e :: rest ∧ t = inputResult e { s with inbox := rest } := by
  cases hi : s.inbox with
  | nil => simp [step_of_noInput hi] at h
  | cons e rest =>
    rw [step_eq s e rest hi] at h
    cases h
    exact ⟨e, rest, rfl, rfl⟩

/-- Settles O49: taking an input off the list keeps the invariants, and so does everything an input does. -/
theorem everyStepKeepsTheInvariants : Obligations.EveryStepKeepsTheInvariants := by
  intro s t h hstep
  obtain ⟨e, rest, -, rfl⟩ := step_next_cases hstep
  exact inv_inputResult e (h.withInputs rest s.txpay)

/-! ## The registers a step may write (R25 to R28, R34, R181) -/

/-- The registers that last for a session or belong to the host, and the count of completed commands. -/
structure Registers where
  params : Params
  cfg : Cfg
  role : Role
  ns : SeqBit
  nr : SeqBit
  rxpkt : Bytes
  resultLen : Nat
  done : Nat

/-- The registers of a state. -/
def State.registers (s : State) : Registers where
  params := s.params
  cfg := s.cfg
  role := s.role
  ns := s.ns
  nr := s.nr
  rxpkt := s.rxpkt
  resultLen := s.resultLen
  done := s.done

section
variable (s : State)

@[simp] theorem registers_timerArm : (timerArm s).registers = s.registers := rfl
@[simp] theorem registers_timerCancel : (timerCancel s).registers = s.registers := rfl
@[simp] theorem registers_chanRelease : (chanRelease s).registers = s.registers := rfl
@[simp] theorem registers_goto (ph : Phase) : (goto ph s).registers = s.registers := rfl
@[simp] theorem registers_setScan (sc : Scan) (buf : Bytes) : (setScan sc buf s).registers = s.registers := rfl
@[simp] theorem registers_writeCalled : (writeCalled s).registers = s.registers := rfl
@[simp] theorem registers_sent (bs : Bytes) : (sent bs s).registers = s.registers := rfl

end

/-- What an event can do to the phase and the registers: the block waits on, or the running command ends without
moving a sequence bit, or SEND is acknowledged, or RECEIVE delivers. -/
inductive EventOutcome (s t : State) : Prop where
  | waits (same : t.registers = s.registers) (phase : t.ph = s.ph ∨ s.ph = .crWaitDisc ∧ t.ph = .crWaitUa)
  | ended (u : State) (st : Status) (same : u.registers = s.registers)
      (phase : u.ph = .closed ∨ u.ph = .idle ∧ s.ph ≠ .txWaitAck ∧ (s.ph = .rxFrame → st ≠ .ok))
      (eq : t = complete st .none u)
  | acked (u : State) (n : Nat) (phase : s.ph = .txWaitAck) (same : u.registers = s.registers)
      (eq : t = complete .ok (.bytesWritten n) (goto .idle (toggleNs u)))
  | delivered (u : State) (pl : Bytes) (phase : s.ph = .rxFrame) (same : u.registers = s.registers)
      (eq : t = complete .ok (.packet pl) (goto .idle (toggleNr u)))

section
variable {s t u : State}

theorem EventOutcome.unchanged (s : State) : EventOutcome s s := .waits rfl (.inl rfl)

/-- What an event does after another that left the block waiting is what it does at once. -/
theorem EventOutcome.after_waits (h : EventOutcome u t) (same : u.registers = s.registers)
    (phase : u.ph = s.ph ∨ s.ph = .crWaitDisc ∧ u.ph = .crWaitUa) : EventOutcome s t := by
  have back {ph : Phase} (hp : u.ph = ph) (hne : ph ≠ .crWaitUa) : s.ph = ph := by
    rcases phase with h | ⟨-, h⟩
    · rw [← h, hp]
    · exact absurd (hp.symm.trans h) hne
  have neither {ph : Phase} (hne : ph ≠ .crWaitDisc) (hp : s.ph = ph) : u.ph = ph := by
    rcases phase with h | ⟨h, -⟩
    · rw [h, hp]
    · exact absurd (hp.symm.trans h) hne
  cases h with
  | waits h hp =>
    refine .waits (h.trans same) ?_
    rcases phase with h1 | ⟨h1, h2⟩
    · rwa [h1] at hp
    · rcases hp with hp | ⟨hp, -⟩
      · exact .inr ⟨h1, hp.trans h2⟩
      · simp [h2] at hp
  | ended v st h hp eq =>
    refine .ended v st (h.trans same) ?_ eq
    exact hp.imp_right fun ⟨hi, htx, hrx⟩ =>
      ⟨hi, fun h => htx (neither nofun h), fun h => hrx (neither nofun h)⟩
  | acked v n hp h eq => exact .acked v n (back hp nofun) (h.trans same) eq
  | delivered v pl hp h eq => exact .delivered v pl (back hp nofun) (h.trans same) eq

theorem EventOutcome.of_fatal (st : Status) (same : u.registers = s.registers) : EventOutcome s (fatal st u) :=
  .ended (goto .closed (chanRelease (timerCancel u))) st (by simpa) (.inl rfl) rfl

/-- A write fails and the session ends, or what follows it decides. -/
theorem EventOutcome.of_writeThen {bs : Bytes} {k : State → State} (same : u.registers = s.registers)
    (hk : EventOutcome s (k (sent bs u))) : EventOutcome s (writeThen bs k u) := by
  obtain ⟨-, h⟩ | ⟨e, -, h⟩ := writeThen_cases bs k u
  · rw [h]; exact hk
  · rw [h]; exact .of_fatal _ (by simpa)

/-- A reply that completes the command in `IDLE`. -/
theorem EventOutcome.of_reply (bs : Bytes) (st : Status) (htx : s.ph ≠ .txWaitAck) (hrx : s.ph = .rxFrame → st ≠ .ok) :
    EventOutcome s (writeThen bs (fun v => complete st .none (goto .idle v)) s) :=
  .of_writeThen rfl (.ended (goto .idle (sent bs s)) st (by simp) (.inr ⟨rfl, htx, hrx⟩) rfl)

theorem EventOutcome.of_writeThenArm (same : u.registers = s.registers) (hp : u.ph = s.ph) :
    EventOutcome s (writeThenArm u) :=
  .of_writeThen same (.waits (by simpa) (.inl (by simpa)))

theorem EventOutcome.of_armThenWrite (same : u.registers = s.registers) (hp : u.ph = s.ph) :
    EventOutcome s (armThenWrite u) :=
  .of_writeThen (k := id) (by simpa) (.waits (by simpa) (.inl (by simpa)))

theorem EventOutcome.of_rejMatched (s : State) : EventOutcome s (rejMatched s) := by
  by_cases hm : s.maxRetries ≤ s.rejcnt + 1
  · rw [rejMatched_fatal s hm]; exact .of_fatal _ rfl
  · rw [rejMatched_resend s hm]; exact .of_writeThenArm rfl rfl

/-- The retry step resends and waits on, or fails the command (R175). -/
theorem EventOutcome.of_retryWith (err : Status) {resend : State → State}
    (hr : EventOutcome s (resend { s with tarmed := false, retry := s.retry + 1 })) :
    EventOutcome s (retryWith err resend s) := by
  by_cases hm : s.maxRetries ≤ s.retry + 1
  · rw [retryWith_fatal err resend s hm]; exact .of_fatal _ rfl
  · rw [retryWith_resend err resend s (Nat.not_le.1 hm)]; exact hr

theorem EventOutcome.of_phaseRetry (s : State) : EventOutcome s (phaseRetry s) := by
  cases hp : s.ph <;> simp only [phaseRetry, hp]
  case oiWaitUa | ciWaitDisc => exact .of_retryWith _ (.of_armThenWrite rfl rfl)
  case txWaitAck => exact .of_retryWith _ (.of_writeThenArm rfl rfl)
  all_goals exact .unchanged s

theorem EventOutcome.of_onMatch (s : State) (t : Bytes) (hc : s.ph.control = true) : EventOutcome s (onMatch t s) := by
  cases hp : s.ph <;> simp only [onMatch, hp]
  case oiWaitUa => exact .ended (goto .idle (timerCancel s)) .ok (by simp) (.inr ⟨rfl, by simp [hp], by simp [hp]⟩) rfl
  case orWaitSet => exact .of_reply _ _ (by simp [hp]) (by simp [hp])
  case ciWaitDisc =>
    exact .of_writeThen (by simp)
      (.ended (goto .closed (chanRelease (sent _ (timerCancel s)))) .ok (by simp) (.inl rfl) rfl)
  case crWaitDisc => exact .of_writeThen rfl (.waits (by simp) (.inr ⟨hp, by simp⟩))
  case crWaitUa => exact .ended (goto .closed (chanRelease s)) .ok (by simp) (.inl rfl) rfl
  case txWaitAck =>
    split
    · exact .acked (timerCancel s) s.txbuf.length hp (by simp) rfl
    · exact .of_rejMatched s
  case closed | idle | rxFrame => simp [hp, Phase.control] at hc

theorem EventOutcome.of_classify (s : State) (d : Decoded) (hp : s.ph = .rxFrame) : EventOutcome s (classify d s) := by
  have replied (bs : Bytes) {st : Status} (hst : st ≠ .ok) :
      EventOutcome s (writeThen bs (fun v => complete st .none (goto .idle v)) s) :=
    .of_reply bs st (by simp [hp]) fun _ => hst
  cases d with
  | checksum1Mismatch => exact .ended (goto .idle s) .frameCorruptChecksum1 rfl (.inr ⟨rfl, by simp [hp], nofun⟩) rfl
  | checksum2Mismatch a c =>
    simp only [classify]
    split
    · exact .unchanged s
    · split
      · exact replied _ nofun
      · exact .unchanged s
  | data a c pl =>
    simp only [classify]
    split
    · exact .unchanged s
    · split
      · split
        · exact .of_writeThen rfl (.delivered (sent _ s) pl hp (by simp) rfl)
        · exact replied _ nofun
      · exact .unchanged s

theorem EventOutcome.of_rxByte (b : Byte) (s : State) : EventOutcome s (rxByte b s) := by
  have scanned (sc : Scan) (buf : Bytes) : EventOutcome s (setScan sc buf s) := .waits rfl (.inl rfl)
  exact rxByte_rule b s (fun _ _ => scanned _ _)
    (fun t hc _ => (EventOutcome.of_onMatch (setScan .matched t s) t hc).after_waits rfl (.inl rfl))
    (fun _ _ => scanned _ _)
    (fun raw hp _ => (EventOutcome.of_classify (setScan .waitDelimiter [] s) _ hp).after_waits rfl (.inl rfl))
    (fun _ => .unchanged s)

/-- A frame does what one event does: after a byte that ends the command no byte is read. -/
theorem EventOutcome.of_rxBytes (bs : Bytes) (s : State) : EventOutcome s (rxBytes bs s) := by
  induction bs generalizing s with
  | nil => exact .unchanged s
  | cons b bs ih =>
    have stops (h : (rxByte b s).ph = .closed ∨ (rxByte b s).ph = .idle) :
        EventOutcome s (rxBytes bs (rxByte b s)) := by
      rw [rxBytes_notReading bs _ h]
      exact .of_rxByte b s
    rw [rxBytes_cons]
    cases EventOutcome.of_rxByte b s with
    | waits h hp => exact (ih (rxByte b s)).after_waits h hp
    | ended u st h hp eq => exact stops (by rw [eq]; exact hp.imp_right And.left)
    | acked u n hp h eq => exact stops (by rw [eq]; exact .inr rfl)
    | delivered u pl hp h eq => exact stops (by rw [eq]; exact .inr rfl)

/-- What an input can do to the phase and the registers. -/
inductive InputOutcome (e : Input) (s t : State) : Prop where
  | event (h : EventOutcome s t)
  | started (phase : s.ph = .idle) (same : t.registers = s.registers)
  | opened (phase : s.ph = .closed) (command : e = .cmd 0) (answer : openAnswer s = .ok) (ns : t.ns = false)
      (nr : t.nr = false) (params : t.params = s.params) (cfg : t.cfg = s.cfg)
  | configured (phase : s.ph = .closed) (cfg : Cfg) (eq : t = { s with cfg := cfg })
  | reset (input : e = .hwReset) (eq : t = hwReset s)

/-- A command that begins with a write has begun, or the session has ended. -/
theorem InputOutcome.of_writeThen {e : Input} {bs : Bytes} {k : State → State} (hp : s.ph = .idle)
    (same : u.registers = s.registers) (hk : (k (sent bs u)).registers = s.registers) :
    InputOutcome e s (writeThen bs k u) := by
  obtain ⟨-, h⟩ | ⟨e, -, h⟩ := writeThen_cases bs k u
  · rw [h]; exact .started hp hk
  · rw [h]; exact .event (.of_fatal _ (by simpa))

/-- Both starts of a session leave the bits session reset cleared (R40, R132, R135). -/
theorem openSession_registers (s : State) : (openSession s).ns = false ∧ (openSession s).nr = false ∧
    (openSession s).params = s.params ∧ (openSession s).cfg = s.cfg := by
  unfold openSession
  cases hr : (sessionReset (chanHold s)).role <;> simp only [hr]
  case responder => simp [openResponder]
  case initiator =>
    unfold openInitiator
    generalize hu : timerArm { sessionReset (chanHold s) with txbuf := setFrame (sessionReset (chanHold s)).p } = u
    have hbits : u.ns = false ∧ u.nr = false ∧ u.params = s.params ∧ u.cfg = s.cfg := by simp [← hu]
    obtain ⟨-, h⟩ | ⟨e, -, h⟩ := writeThen_cases u.txbuf (goto .oiWaitUa) u
    · simpa [h] using hbits
    · simpa [h, fatal] using hbits

theorem InputOutcome.of_openStep (hp : s.ph = .closed) : InputOutcome (.cmd 0) s (openStep s) := by
  unfold openStep
  split
  · exact .event (.ended s _ rfl (.inl hp) rfl)
  · split
    · exact .event (.ended (openCalled s) _ rfl (.inl hp) rfl)
    · rename_i ho
      obtain ⟨hns, hnr, hparams, hcfg⟩ := openSession_registers (openCalled s)
      exact .opened hp rfl ho hns hnr hparams hcfg

theorem InputOutcome.of_cmdResult (code : BitVec 2) (s : State) : InputOutcome (.cmd code) s (cmdResult code s) := by
  have refused : InputOutcome (.cmd code) s s := .event (.unchanged s)
  unfold cmdResult
  split
  · rename_i hcode
    subst hcode
    split
    · exact .of_openStep ‹_›
    · exact refused
  split
  · split
    · rename_i hsend
      exact .of_writeThen (k := fun u => goto .txWaitAck (scannerReset (timerArm u))) hsend.1 rfl rfl
    · exact refused
  split
  · split
    · exact .started ‹_› (by simp)
    · exact refused
  split
  · split
    · exact .of_writeThen ‹_› rfl rfl
    · exact .started ‹_› rfl
  · exact refused

theorem InputOutcome.of_inputResult (e : Input) (s : State) : InputOutcome e s (inputResult e s) := by
  cases e with
  | cmd code => exact .of_cmdResult code s
  | frame bs => exact .event (.of_rxBytes bs s)
  | rx b => exact .event (.of_rxByte b s)
  | timeout =>
    simp only [inputResult]
    split
    · exact .event (.of_phaseRetry s)
    · exact .event (.unchanged s)
  | rxerr e =>
    simp only [inputResult]
    split
    · exact .event (.of_fatal _ rfl)
    · exact .event (.unchanged s)
  | writeCfg w =>
    simp only [inputResult]
    by_cases hp : s.ph = .closed
    · rw [hostWriteCfg_of_closed hp]; exact .configured hp _ rfl
    · rw [hostWriteCfg_of_open hp]; exact .event (.unchanged s)
  | writeTxpay bs => exact .event (.waits rfl (.inl rfl))
  | hwReset => exact .reset rfl rfl

theorem inputOutcome_of_step {e : Input} {rest : List Input} (hin : s.inbox = e :: rest) (h : step s = .next t) :
    InputOutcome e { s with inbox := rest } t := by
  rw [step_eq s e rest hin] at h
  cases h
  exact .of_inputResult e _

end

/-! ## The sequence bits, the configuration and the role (R25 to R28, R213) -/

/-- What a step on the input `e` does to `NS` (R27, R153). -/
def NsRule (e : Input) (s t : State) : Prop :=
  (t.ns ≠ s.ns → (s.ph = .closed ∧ e = .cmd 0 ∧ openAnswer s = .ok ∧ t.ns = false) ∨
    (s.ph = .txWaitAck ∧ t.ph = .idle ∧ t.status = .ok ∧ t.ns = !s.ns)) ∧
  (s.ph = .txWaitAck → t.ph = .idle → t.ns = !s.ns ∧ t.status = .ok ∧ t.done = s.done + 1)

/-- What a step on the input `e` does to `NR` and the packet (R28, R158, R159, R160). -/
def NrRule (e : Input) (s t : State) : Prop :=
  (t.nr ≠ s.nr → (s.ph = .closed ∧ e = .cmd 0 ∧ openAnswer s = .ok ∧ t.nr = false) ∨
    (s.ph = .rxFrame ∧ t.ph = .idle ∧ t.status = .ok ∧ t.nr = !s.nr)) ∧
  (s.ph = .rxFrame → t.ph = .idle → t.status = .ok → t.nr = !s.nr ∧ t.resultLen = t.rxpkt.length) ∧
  (s.ph = .rxFrame → t.ph = .idle → t.status ≠ .ok →
    t.nr = s.nr ∧ t.rxpkt = s.rxpkt ∧ t.resultLen = s.resultLen)

section
variable {e : Input} {s t u : State}

theorem ns_of_registers (h : t.registers = s.registers) : t.ns = s.ns := congrArg Registers.ns h
theorem nr_of_registers (h : t.registers = s.registers) : t.nr = s.nr := congrArg Registers.nr h
theorem params_of_registers (h : t.registers = s.registers) : t.params = s.params := congrArg Registers.params h
theorem cfg_of_registers (h : t.registers = s.registers) : t.cfg = s.cfg := congrArg Registers.cfg h
theorem role_of_registers (h : t.registers = s.registers) : t.role = s.role := congrArg Registers.role h
theorem rxpkt_of_registers (h : t.registers = s.registers) : t.rxpkt = s.rxpkt := congrArg Registers.rxpkt h
theorem resultLen_of_registers (h : t.registers = s.registers) : t.resultLen = s.resultLen :=
  congrArg Registers.resultLen h
theorem done_of_registers (h : t.registers = s.registers) : t.done = s.done := congrArg Registers.done h

theorem nsRule_of_unchanged (hns : t.ns = s.ns) (hp : s.ph = .txWaitAck → t.ph ≠ .idle) : NsRule e s t :=
  ⟨absurd hns, fun hs ht => absurd ht (hp hs)⟩

theorem nrRule_of_unchanged (hnr : t.nr = s.nr) (hp : s.ph = .rxFrame → t.ph ≠ .idle) : NrRule e s t :=
  ⟨absurd hnr, fun hs ht => absurd ht (hp hs), fun hs ht => absurd ht (hp hs)⟩

/-- A block is in one phase at a time. -/
theorem absurd_phase {ph ph' : Phase} (h : s.ph = ph) (hne : ph ≠ ph') {P : Prop} : s.ph = ph' → P :=
  fun h' => absurd (h.symm.trans h') hne

/-- An event that leaves the block waiting does not take a waiting phase to `IDLE`. -/
theorem waits_ne_idle (hp : t.ph = s.ph ∨ s.ph = .crWaitDisc ∧ t.ph = .crWaitUa) (hs : s.ph ≠ .idle) :
    t.ph ≠ .idle := by
  rcases hp with hp | ⟨-, hp⟩
  · rwa [hp]
  · simp [hp]

theorem EventOutcome.nsRule (h : EventOutcome s t) : NsRule e s t := by
  cases h with
  | waits h hp => exact nsRule_of_unchanged (ns_of_registers h) fun hs => waits_ne_idle hp (by simp [hs])
  | ended u st h hp eq =>
    subst eq
    refine nsRule_of_unchanged (ns_of_registers (t := u) h) fun hs => ?_
    rcases hp with hp | ⟨-, hne, -⟩
    · simp [hp]
    · exact absurd hs hne
  | acked u n hp h eq =>
    subst eq
    have hns : (!u.ns) = !s.ns := congrArg _ (ns_of_registers h)
    exact ⟨fun _ => .inr ⟨hp, rfl, rfl, hns⟩, fun _ _ => ⟨hns, rfl, congrArg (· + 1) (done_of_registers (t := u) h)⟩⟩
  | delivered u pl hp h eq =>
    subst eq
    exact nsRule_of_unchanged (ns_of_registers (t := u) h) (absurd_phase hp (by decide))

theorem EventOutcome.nrRule (h : EventOutcome s t) : NrRule e s t := by
  cases h with
  | waits h hp => exact nrRule_of_unchanged (nr_of_registers h) fun hs => waits_ne_idle hp (by simp [hs])
  | ended u st h hp eq =>
    subst eq
    refine ⟨absurd (nr_of_registers (t := u) h), fun hs ht hok => ?_,
      fun _ _ _ => ⟨nr_of_registers (t := u) h, rxpkt_of_registers (t := u) h, resultLen_of_registers (t := u) h⟩⟩
    rcases hp with hp | ⟨-, -, hst⟩
    · simp [hp] at ht
    · exact absurd hok (hst hs)
  | acked u n hp h eq =>
    subst eq
    exact nrRule_of_unchanged (nr_of_registers (t := u) h) (absurd_phase hp (by decide))
  | delivered u pl hp h eq =>
    subst eq
    have hnr : (!u.nr) = !s.nr := congrArg _ (nr_of_registers h)
    exact ⟨fun _ => .inr ⟨hp, rfl, rfl, hnr⟩, fun _ _ _ => ⟨hnr, rfl⟩, fun _ _ hst => absurd rfl hst⟩

theorem EventOutcome.session (h : EventOutcome s t) : t.params = s.params ∧ t.cfg = s.cfg ∧ t.role = s.role := by
  have kept {u : State} (h : u.registers = s.registers) : u.params = s.params ∧ u.cfg = s.cfg ∧ u.role = s.role :=
    ⟨params_of_registers h, cfg_of_registers h, role_of_registers h⟩
  cases h with
  | waits h => exact kept h
  | ended u st h hp eq | acked u n hp h eq | delivered u pl hp h eq => subst eq; exact kept (u := u) h

theorem InputOutcome.nsRule (h : InputOutcome e s t) (hne : e ≠ .hwReset) : NsRule e s t := by
  cases h with
  | event h => exact h.nsRule
  | started hp h => exact nsRule_of_unchanged (ns_of_registers h) (absurd_phase hp (by decide))
  | opened hp he ho hns => exact ⟨fun _ => .inl ⟨hp, he, ho, hns⟩, absurd_phase hp (by decide)⟩
  | configured hp cfg eq => subst eq; exact nsRule_of_unchanged rfl (absurd_phase hp (by decide))
  | reset he => exact absurd he hne

theorem InputOutcome.nrRule (h : InputOutcome e s t) (hne : e ≠ .hwReset) : NrRule e s t := by
  cases h with
  | event h => exact h.nrRule
  | started hp h => exact nrRule_of_unchanged (nr_of_registers h) (absurd_phase hp (by decide))
  | opened hp he ho _ hnr =>
    exact ⟨fun _ => .inl ⟨hp, he, ho, hnr⟩, absurd_phase hp (by decide), absurd_phase hp (by decide)⟩
  | configured hp cfg eq => subst eq; exact nrRule_of_unchanged rfl (absurd_phase hp (by decide))
  | reset he => exact absurd he hne

/-- The configuration lasts while a session does, the role with it, and the parameters for ever (R25, R26, R213). -/
theorem InputOutcome.session (h : InputOutcome e s t) : t.params = s.params ∧
    (t.cfg ≠ s.cfg → s.ph = .closed ∨ e = .hwReset) ∧ (s.ph ≠ .closed → t.ph ≠ .closed → t.role = s.role) := by
  cases h with
  | event h =>
    obtain ⟨hparams, hcfg, hrole⟩ := h.session
    exact ⟨hparams, absurd hcfg, fun _ _ => hrole⟩
  | started hp h => exact ⟨params_of_registers h, absurd (cfg_of_registers h), fun _ _ => role_of_registers h⟩
  | opened hp _ _ _ _ hparams => exact ⟨hparams, fun _ => .inl hp, absurd hp⟩
  | configured hp cfg eq => subst eq; exact ⟨rfl, fun _ => .inl hp, absurd hp⟩
  | reset he eq => subst eq; exact ⟨rfl, fun _ => .inr he, fun _ ht => absurd rfl ht⟩

end

/-- Settles O50: of the things an input can do, only an acknowledged SEND and an opened session write `NS`. -/
theorem sendBitTogglesOncePerAcknowledgedFrame : Obligations.SendBitTogglesOncePerAcknowledgedFrame :=
  fun _ _ _ _ hin hstep hne => (inputOutcome_of_step hin hstep).nsRule hne

/-- Settles O51: of the things an input can do, only a delivery and an opened session write `NR`. -/
theorem receiveBitTogglesOncePerDeliveredFrame : Obligations.ReceiveBitTogglesOncePerDeliveredFrame :=
  fun _ _ _ _ hin hstep hne => (inputOutcome_of_step hin hstep).nrRule hne

/-- Settles O52: of the things an input can do, none writes the parameters, and only those of a closed block and the
hardware reset write `CFG` or `ROLE`. -/
theorem configurationAndRoleLastForTheSession : Obligations.ConfigurationAndRoleLastForTheSession :=
  fun _ _ _ _ hin hstep => (inputOutcome_of_step hin hstep).session

/-! ## What a session discards (R36, decision D30) -/

section
variable {s : State} (d : Discarded)

theorem sameUpToDiscarded_withDiscarded (hp : s.ph = .closed) : SameUpToDiscarded s (s.withDiscarded d) :=
  .inr ⟨hp, d, rfl⟩

/-- Session reset writes every discarded element (R40). -/
theorem openSession_withDiscarded (s : State) : openSession (s.withDiscarded d) = openSession s := by
  have h : sessionReset (chanHold (s.withDiscarded d)) = sessionReset (chanHold s) := rfl
  unfold openSession
  rw [h]

/-- An OPEN that fails reads no discarded element, and one that succeeds writes them all. -/
theorem openStep_withDiscarded (hp : s.ph = .closed) :
    SameUpToDiscarded (openStep s) (openStep (s.withDiscarded d)) := by
  have hcfg : (s.withDiscarded d).cfg = s.cfg := rfl
  have hans : openAnswer (s.withDiscarded d) = openAnswer s := rfl
  unfold openStep
  rw [hcfg, hans]
  cases roleOfCode s.cfg.role with
  | none => exact .inr ⟨hp, d, rfl⟩
  | some _ =>
    cases openAnswer s with
    | error e => exact .inr ⟨hp, d, rfl⟩
    | ok => exact .inl (openSession_withDiscarded d (openCalled s)).symm

/-- While closed every command but OPEN is refused. -/
theorem cmdResult_of_closed (hp : s.ph = .closed) (code : BitVec 2) :
    cmdResult code s = if code = 0 then openStep s else s := by
  simp [cmdResult, hp]

theorem phaseRetry_of_closed (hp : s.ph = .closed) : phaseRetry s = s := by
  simp [phaseRetry, hp]

/-- What an input does to a closed block, it does whatever the last session left behind. -/
theorem inputResult_withDiscarded (e : Input) (hp : s.ph = .closed) :
    SameUpToDiscarded (inputResult e s) (inputResult e (s.withDiscarded d)) := by
  have hp' : (s.withDiscarded d).ph = .closed := hp
  have lost := sameUpToDiscarded_withDiscarded d hp
  cases e with
  | cmd code =>
    simp only [inputResult, cmdResult_of_closed hp, cmdResult_of_closed hp']
    split
    · exact openStep_withDiscarded d hp
    · exact lost
  | frame bs =>
    simp only [inputResult, rxBytes_notReading bs _ (.inl hp), rxBytes_notReading bs _ (.inl hp')]
    exact lost
  | rx b =>
    simp only [inputResult, rxByte_notReading b _ (.inl hp), rxByte_notReading b _ (.inl hp')]
    exact lost
  | timeout =>
    simp only [inputResult, phaseRetry_of_closed hp, phaseRetry_of_closed hp', ite_self]
    exact lost
  | rxerr e =>
    simp only [inputResult, hp, hp']
    exact lost
  | writeCfg w =>
    simp only [inputResult, hostWriteCfg_of_closed hp, hostWriteCfg_of_closed hp']
    exact sameUpToDiscarded_withDiscarded (s := { s with cfg := s.cfg.write s.p w }) d hp
  | writeTxpay bs => exact sameUpToDiscarded_withDiscarded (s := hostWriteTxpay bs s) d hp
  | hwReset => exact .inl rfl

end

/-- Settles O53: a step takes the same input in both states, and no input reads a discarded element of a closed
block. -/
theorem nothingSurvivesFromOneSessionToTheNext : Obligations.NothingSurvivesFromOneSessionToTheNext := by
  rintro s t (rfl | ⟨hp, d, rfl⟩)
  · exact ⟨fun s' h => ⟨s', h, .inl rfl⟩, fun _ h => h⟩
  · cases hin : s.inbox with
    | nil =>
      rw [step_of_noInput hin, step_of_noInput (s := s.withDiscarded d) hin]
      exact ⟨fun s' h => by simp only [reduceCtorEq] at h, fun _ h => h⟩
    | cons e rest =>
      rw [step_eq s e rest hin, step_eq (s.withDiscarded d) e rest hin]
      refine ⟨fun s' h => ?_, fun r h => by simp only [reduceCtorEq] at h⟩
      rw [← Host.Outcome.next.inj h]
      exact ⟨_, rfl, inputResult_withDiscarded (s := { s with inbox := rest }) d e hp⟩

end Sys2Proof.Machine

/-! Proofs of the family `20_memory.md`: the collaborator's calls, what a failed write does, and the TX stream. -/

namespace Sys2Proof.Machine

open Sys2Proof

/-! ## `ChanOpen` and `ChanWrite` (R54, R57) -/

theorem openAnswer_of_listed {s : State} {a : OpenAnswer} {os : List OpenAnswer} (h : s.openAnswers = a :: os) :
    openAnswer s = a := by
  simp [openAnswer, h]

theorem writeAnswer_of_listed {s : State} {w : WriteAnswer} {ws : List WriteAnswer} (h : s.writeAnswers = w :: ws) :
    writeAnswer s = w := by
  simp [writeAnswer, h]

/-- A short count is an error (decision D19). -/
theorem writeError_short {bs : Bytes} {n : Nat} {ws : List WriteAnswer} {s : State}
    (h : s.writeAnswers = .count n :: ws) (hn : n < bs.length) :
    writeError bs s = some (Config.freeShortWriteError s.freeCount) := by
  simp [writeError, writeAnswer_of_listed h, Nat.not_le.2 hn]

theorem writeCalled_of_listed {s : State} {w : WriteAnswer} {ws : List WriteAnswer} (h : s.writeAnswers = w :: ws) :
    writeCalled s = { s with writeAnswers := ws, freeCount := s.freeCount + 1 } := by
  simp [writeCalled, h]

theorem sent_of_listed {s : State} {w : WriteAnswer} {ws : List WriteAnswer} (h : s.writeAnswers = w :: ws)
    (bs : Bytes) :
    sent bs s = { s with txCalls := s.txCalls ++ [bs], writeAnswers := ws, freeCount := s.freeCount + 1 } := by
  simp [sent, writeCalled_of_listed h]

theorem exec_chanOpen_of_listed {s : State} {a : OpenAnswer} {os : List OpenAnswer} (h : s.openAnswers = a :: os) :
    exec .chanOpen s = .next
      { s with
        openCalls := s.openCalls ++ [(s.cfg.channelId, s.cfg.baud)]
        openAnswers := os
        freeCount := s.freeCount + 1
        chanHeld := if a = .ok then true else s.chanHeld
        opResult := .opened a } := by
  cases a <;> simp [exec, execChanOpen, openAnswer_of_listed h, giveBack, chanHold, openCalled, h]

/-- A call that succeeds puts its bytes into the TX stream. -/
theorem exec_chanWrite_ok {s : State} {bs : Bytes} (h : writeError bs s = none) :
    exec (.chanWrite bs) s = .next (giveBack (.written (writeAnswer s)) (sent bs s)) := by
  simp [exec, execChanWrite, h]

/-- A call that fails puts none there. -/
theorem exec_chanWrite_error {s : State} {bs : Bytes} {e : ChanErr} (h : writeError bs s = some e) :
    exec (.chanWrite bs) s = .next (giveBack (.written (writeAnswer s)) (writeCalled s)) := by
  simp [exec, execChanWrite, h]

/-- Settles O15: each call takes the answer listed first, and the count decides whether the bytes are sent. -/
theorem channelCallsGiveTheirAnswers : Obligations.ChannelCallsGiveTheirAnswers := by
  intro s a os w ws bs
  refine ⟨exec_chanOpen_of_listed, fun h => ?_, fun h => ⟨writeError_count bs _ ws s h le_rfl, sent_of_listed h bs⟩,
    fun n hn h => ⟨_, writeError_short h hn⟩, fun e h => writeError_error bs e ws s h⟩
  cases w with
  | error e =>
    rw [exec_chanWrite_error (writeError_error bs e ws s h), writeAnswer_of_listed h, writeCalled_of_listed h]
    rfl
  | count n =>
    by_cases hn : bs.length ≤ n
    · rw [exec_chanWrite_ok (writeError_count bs n ws s h hn), writeAnswer_of_listed h, sent_of_listed h]
      simp [giveBack, hn]
    · have hne : n ≠ bs.length := fun heq => hn heq.ge
      rw [exec_chanWrite_error (writeError_short h (Nat.not_le.1 hn)), writeAnswer_of_listed h,
        writeCalled_of_listed h]
      simp [giveBack, hn, hne]

/-! ## `ChanRead` (R55) -/

theorem waiting_iff (ph : Phase) : ph.waiting = true ↔ ph ≠ .closed ∧ ph ≠ .idle := by
  cases ph <;> decide

theorem exec_chanRead_waiting {s : State} {l : List Input} (hw : s.ph.waiting = true) (hin : s.inbox = l) :
    exec .chanRead s = readFrom l s := by
  simp [exec, execChanRead, hw, hin]

theorem exec_chanRead_notWaiting {s : State} (hp : s.ph = .closed ∨ s.ph = .idle) :
    exec .chanRead s = .refused .eventNotEnabled := by
  have hw : s.ph.waiting = false := by rcases hp with hp | hp <;> rw [hp] <;> rfl
  simp [exec, execChanRead, hw]

/-- In a waiting phase a read that has passed an input goes on as if it had not been listed. -/
theorem exec_chanRead_goesOn {s u : State} {l rest : List Input} (hw : s.ph.waiting = true) (hp : u.ph = s.ph)
    (hin : s.inbox = l) (h : readFrom l s = readFrom rest u) :
    exec .chanRead s = exec .chanRead { u with inbox := rest } := by
  have hwu : u.ph.waiting = true := hp ▸ hw
  calc exec .chanRead s
    _ = readFrom l s := exec_chanRead_waiting hw hin
    _ = readFrom rest u := h
    _ = readFrom rest { u with inbox := rest } := (readFrom_inbox rest rest u).symm
    _ = exec .chanRead { u with inbox := rest } := (exec_chanRead_waiting (s := { u with inbox := rest }) hwu rfl).symm

/-- What is no answer of the channel and writes nothing, a waiting phase passes over. -/
theorem readFrom_passes {i : Input} {s : State}
    (hi : i = .frame [] ∨ (∃ code, i = .cmd code) ∨ (∃ w, i = .writeCfg w) ∨ (i = .timeout ∧ s.tarmed = false))
    (rest : List Input) : readFrom (i :: rest) s = readFrom rest s := by
  rcases hi with rfl | ⟨code, rfl⟩ | ⟨w, rfl⟩ | ⟨rfl, ht⟩
  case inr.inr.inr => simp [readFrom, ht]
  all_goals rfl

/-- Settles O16: outside the waiting phases the read is refused; inside them the first input listed decides. -/
theorem chanReadConsumesWhatItReturns : Obligations.ChanReadConsumesWhatItReturns := by
  intro s b c e i bs rest
  refine ⟨fun hc hi => ?_, exec_chanRead_notWaiting⟩
  have hw : s.ph.waiting = true := (waiting_iff s.ph).2 ⟨hc, hi⟩
  refine ⟨exec_chanRead_waiting hw, exec_chanRead_waiting hw, exec_chanRead_waiting hw, exec_chanRead_waiting hw,
    fun hin ht => ?_, fun hin hpass => exec_chanRead_goesOn hw rfl hin (readFrom_passes hpass rest),
    fun hin => exec_chanRead_goesOn (u := hostWriteTxpay bs s) hw rfl hin rfl, exec_chanRead_waiting hw,
    exec_chanRead_waiting hw⟩
  rw [exec_chanRead_waiting hw hin, readFrom, if_pos ht, readReturns, giveBack]

/-! ## The TX stream (R57, R63) -/

/-- Between two states at most one call has put bytes into the TX stream, at its end. -/
def AtMostOneCall (s t : State) : Prop := t.txCalls = s.txCalls ∨ ∃ f, t.txCalls = s.txCalls ++ [f]

section
variable {s t u : State}

theorem AtMostOneCall.unchanged (s : State) : AtMostOneCall s s := .inl rfl

theorem AtMostOneCall.isPrefix (h : AtMostOneCall s t) : s.txCalls <+: t.txCalls := by
  rcases h with h | ⟨f, h⟩
  · rw [h]
  · rw [h]; exact List.prefix_append ..

/-- One `ChanWrite`, and a rest of the step that writes nothing more. -/
theorem AtMostOneCall.of_writeThen {bs : Bytes} {k : State → State} (hu : u.txCalls = s.txCalls)
    (hk : ∀ v, (k v).txCalls = v.txCalls) : AtMostOneCall s (writeThen bs k u) := by
  obtain ⟨-, h⟩ | ⟨e, -, h⟩ := writeThen_cases bs k u
  · exact .inr ⟨bs, by rw [h, hk, sent_txCalls, hu]⟩
  · exact .inl (by rw [h]; exact hu)

theorem AtMostOneCall.of_writeThenArm (hu : u.txCalls = s.txCalls) : AtMostOneCall s (writeThenArm u) :=
  .of_writeThen hu fun _ => rfl

theorem AtMostOneCall.of_armThenWrite (hu : u.txCalls = s.txCalls) : AtMostOneCall s (armThenWrite u) :=
  .of_writeThen hu fun _ => rfl

theorem AtMostOneCall.of_rejMatched (s : State) : AtMostOneCall s (rejMatched s) := by
  by_cases hm : s.maxRetries ≤ s.rejcnt + 1
  · rw [rejMatched_fatal s hm]; exact .inl rfl
  · rw [rejMatched_resend s hm]; exact .of_writeThenArm rfl

/-- The retry step fails without a write, or resends (R175). -/
theorem AtMostOneCall.of_retryWith (err : Status) {resend : State → State}
    (hr : AtMostOneCall s (resend { s with tarmed := false, retry := s.retry + 1 })) :
    AtMostOneCall s (retryWith err resend s) := by
  by_cases hm : s.maxRetries ≤ s.retry + 1
  · rw [retryWith_fatal err resend s hm]; exact .inl rfl
  · rw [retryWith_resend err resend s (Nat.not_le.1 hm)]; exact hr

theorem AtMostOneCall.of_phaseRetry (s : State) : AtMostOneCall s (phaseRetry s) := by
  cases hp : s.ph <;> simp only [phaseRetry, hp]
  case oiWaitUa | ciWaitDisc => exact .of_retryWith _ (.of_armThenWrite rfl)
  case txWaitAck => exact .of_retryWith _ (.of_writeThenArm rfl)
  all_goals exact .unchanged s

theorem AtMostOneCall.of_onMatch (s : State) (t : Bytes) : AtMostOneCall s (onMatch t s) := by
  cases hp : s.ph <;> simp only [onMatch, hp]
  case orWaitSet | ciWaitDisc | crWaitDisc => exact .of_writeThen rfl fun _ => rfl
  case txWaitAck =>
    split
    · exact .inl rfl
    · exact .of_rejMatched s
  all_goals exact .inl rfl

theorem AtMostOneCall.of_classify (s : State) (d : Decoded) : AtMostOneCall s (classify d s) := by
  cases d with
  | checksum1Mismatch => exact .inl rfl
  | checksum2Mismatch a c =>
    simp only [classify]
    split
    · exact .unchanged s
    · split
      · exact .of_writeThen rfl fun _ => rfl
      · exact .unchanged s
  | data a c pl =>
    simp only [classify]
    split
    · exact .unchanged s
    · split
      · split <;> exact .of_writeThen rfl fun _ => rfl
      · exact .unchanged s

/-- The scanners write nothing to the channel; what a byte completes writes at most once. -/
theorem AtMostOneCall.of_rxByte (b : Byte) (s : State) : AtMostOneCall s (rxByte b s) :=
  rxByte_rule b s (fun _ _ => .inl rfl) (fun t _ _ => .of_onMatch (setScan .matched t s) t) (fun _ _ => .inl rfl)
    (fun raw _ _ => .of_classify (setScan .waitDelimiter [] s) (decData raw)) (fun _ => .unchanged s)

theorem rxBytes_txCalls_prefix (bs : Bytes) (s : State) : s.txCalls <+: (rxBytes bs s).txCalls := by
  induction bs generalizing s with
  | nil => exact List.prefix_rfl
  | cons b bs ih => exact (AtMostOneCall.of_rxByte b s).isPrefix.trans (ih (rxByte b s))

theorem AtMostOneCall.of_openSession (s : State) : AtMostOneCall s (openSession s) := by
  simp only [openSession]
  split
  · exact .of_writeThen rfl fun _ => rfl
  · exact .inl rfl

theorem AtMostOneCall.of_openStep (s : State) : AtMostOneCall s (openStep s) := by
  unfold openStep
  split
  · exact .inl rfl
  · split
    · exact .inl rfl
    · exact .of_openSession (openCalled s)

theorem AtMostOneCall.of_cmdResult (code : BitVec 2) (s : State) : AtMostOneCall s (cmdResult code s) := by
  unfold cmdResult
  split
  · split
    · exact .of_openStep s
    · exact .unchanged s
  split
  · split
    · exact .of_writeThen rfl fun _ => rfl
    · exact .unchanged s
  split
  · split <;> exact .inl rfl
  split
  · split
    · exact .of_writeThen rfl fun _ => rfl
    · exact .inl rfl
  · exact .unchanged s

theorem AtMostOneCall.of_inputResult {e : Input} (he : ∀ f, e ≠ .frame f) (s : State) :
    AtMostOneCall s (inputResult e s) := by
  cases e with
  | cmd code => exact .of_cmdResult code s
  | frame bs => exact absurd rfl (he bs)
  | rx b => exact .of_rxByte b s
  | timeout =>
    simp only [inputResult]
    split
    · exact .of_phaseRetry s
    · exact .unchanged s
  | rxerr e =>
    simp only [inputResult]
    split <;> exact .inl rfl
  | writeCfg w =>
    simp only [inputResult, hostWriteCfg]
    split <;> exact .inl rfl
  | writeTxpay bs => exact .inl rfl
  | hwReset => exact .inl rfl

/-- Settles O54: one event makes at most one call; a frame's calls are those of its bytes, one after the other. -/
theorem theTxStreamOnlyGrows : Obligations.TheTxStreamOnlyGrows := by
  intro s t e rest hin hstep
  rw [step_eq s e rest hin] at hstep
  obtain rfl : inputResult e { s with inbox := rest } = t := by simpa using hstep
  suffices h : ∃ calls, (inputResult e { s with inbox := rest }).txCalls = s.txCalls ++ calls ∧
      ((∀ f, e ≠ .frame f) → calls.length ≤ 1) by
    obtain ⟨calls, hcalls, hone⟩ := h
    exact ⟨calls, hcalls, by simp [State.txStream, hcalls], hone⟩
  by_cases he : ∀ f, e ≠ .frame f
  · obtain h | ⟨f, h⟩ := AtMostOneCall.of_inputResult he { s with inbox := rest }
    · exact ⟨[], by simpa using h, by simp⟩
    · exact ⟨[f], h, by simp⟩
  · obtain ⟨f, rfl⟩ : ∃ f, e = .frame f := by simpa using he
    obtain ⟨calls, h⟩ := rxBytes_txCalls_prefix f { s with inbox := rest }
    exact ⟨calls, h.symm, fun hne => absurd rfl (hne f)⟩

end

/-! ## A write that fails (R57, R187, R189) -/

/-- What a failed command must leave as it was: the host's data and results, the TX stream, the inputs to come (R189). -/
structure HostView where
  done : Nat
  txCalls : List Bytes
  rxpkt : Bytes
  resultLen : Nat
  cfg : Cfg
  txpay : Bytes
  params : Params
  inbox : List Input

/-- The part of a state that `FailedWith` frames. -/
def State.hostView (s : State) : HostView where
  done := s.done
  txCalls := s.txCalls
  rxpkt := s.rxpkt
  resultLen := s.resultLen
  cfg := s.cfg
  txpay := s.txpay
  params := s.params
  inbox := s.inbox

section
variable {s u : State} {e : ChanErr}

theorem failedWith_fatal (st : Status) (same : u.hostView = s.hostView) : FailedWith st s (fatal st u) := by
  simp only [State.hostView, HostView.mk.injEq] at same
  obtain ⟨hdone, htx, hpkt, hlen, hcfg, hpay, hparams, hin⟩ := same
  exact ⟨rfl, rfl, rfl, rfl, congrArg (· + 1) hdone, htx, hpkt, hlen, hcfg, hpay, hparams, hin⟩

/-- A failing `ChanWrite` ends the session whatever would have followed it. -/
theorem failedWith_writeThen {bs : Bytes} {k : State → State} (same : u.hostView = s.hostView)
    (herr : writeError bs u = some e) : FailedWith (.channelError e) s (writeThen bs k u) := by
  rw [writeThen_error bs k u e herr]
  exact failedWith_fatal (u := writeCalled u) _ same

theorem whenEnabled_of_true {c : Bool} (h : c = true) (t : State) : whenEnabled c t = .next t := by
  simp [whenEnabled, h]

/-! ### Commands -/

/-- OPEN as Initiator, on an acquired channel (R131, R132). -/
theorem openStep_initiator (hr : s.cfg.role = 0) (ho : openAnswer s = .ok) :
    openStep s = openInitiator (sessionReset (chanHold (openCalled s))) := by
  simp [openStep, roleOfCode, openSession, hr, ho]

theorem exec_openCmd_of_closed (hp : s.ph = .closed) : exec .openCmd s = .next (openStep s) := by
  simp [exec, execOpenCmd, hp]

theorem exec_sendCmd_of_fits (hp : s.ph = .idle) (hm : s.txpay.length ≤ s.p.mss) :
    exec .sendCmd s = .next (sendStep s) := by
  simp [exec, execSendCmd, hp, hm]

theorem exec_closeCmd_initiator (hp : s.ph = .idle) (hr : s.role = .initiator) :
    exec .closeCmd s = .next (closeInitiator s) := by
  simp [exec, execCloseCmd, hp, hr]

/-! ### Resending -/

/-- The frame of a timed phase, below the retry budget, cannot be written again. -/
theorem failedWith_phaseRetry (ht : s.ph.timed = true) (hlt : s.retry + 1 < s.maxRetries)
    (herr : writeError s.txbuf s = some e) : FailedWith (.channelError e) s (phaseRetry s) := by
  cases hp : s.ph
  case oiWaitUa | ciWaitDisc | txWaitAck =>
    simp only [phaseRetry, hp, oiWaitUaTimeout, ciWaitDiscTimeout, txWaitAckTimeout, retryWith_resend _ _ s hlt]
    exact failedWith_writeThen rfl herr
  all_goals simp [hp, Phase.timed] at ht

/-- Likewise after a REJ, below its own budget. -/
theorem failedWith_rejMatched (same : u.hostView = s.hostView) (hlt : u.rejcnt + 1 < u.maxRetries)
    (herr : writeError u.txbuf u = some e) : FailedWith (.channelError e) s (rejMatched u) := by
  rw [rejMatched_resend u (Nat.not_le.2 hlt)]
  exact failedWith_writeThen (u := { timerCancel u with rejcnt := u.rejcnt + 1 }) same herr

theorem exec_oiWaitUaTimeout_of_armed (hp : s.ph = .oiWaitUa) (ha : s.tarmed = true) :
    exec .oiWaitUaTimeout s = .next (phaseRetry s) := by
  simp [exec, execOiWaitUaTimeout, whenEnabled, phaseRetry, hp, ha]

theorem exec_ciWaitDiscTimeout_of_armed (hp : s.ph = .ciWaitDisc) (ha : s.tarmed = true) :
    exec .ciWaitDiscTimeout s = .next (phaseRetry s) := by
  simp [exec, execCiWaitDiscTimeout, whenEnabled, phaseRetry, hp, ha]

theorem exec_txWaitAckTimeout_of_armed (hp : s.ph = .txWaitAck) (ha : s.tarmed = true) :
    exec .txWaitAckTimeout s = .next (phaseRetry s) := by
  simp [exec, execTxWaitAckTimeout, whenEnabled, phaseRetry, hp, ha]

/-! ### Replies -/

/-- The operation `RX(b)` runs in a phase is the reception of the byte there. -/
theorem exec_rxInstr {b : Byte} {i : Instr} (h : rxInstr s.ph b = some i) : exec i s = .next (rxByte b s) := by
  cases hp : s.ph <;> simp only [rxInstr, hp, Option.some.injEq, reduceCtorEq] at h <;> subst h
  all_goals
    simp [rxByte, hp, exec, execOiWaitUaRx, execOrWaitSetRx, execTxWaitAckRxRr, execRxFrameRx, execCiWaitDiscRx,
      execCrWaitDiscRx, execCrWaitUaRx, whenEnabled]

/-- The fifth byte of an awaited frame runs the phase's own branch. -/
theorem rxByte_awaited {b : Byte} (hc : s.ph.control = true) (hs : s.sc = .reading 4)
    (h : s.rxbuf ++ [b] ∈ s.awaited) :
    rxByte b s = onMatch (s.rxbuf ++ [b]) (setScan .matched (s.rxbuf ++ [b]) s) := by
  obtain ⟨hmatch, hafter⟩ := cscan_match b s.awaited s hs h
  rw [rxByte_match b s _ hc hmatch, hafter]

/-- So does the whole frame at an aligned station. -/
theorem rxBytes_awaited {a c : Byte} (hc : s.ph.control = true) (hs : s.Aligned) (h : encCtrl a c ∈ s.awaited) :
    rxBytes (encCtrl a c) s = onMatch (encCtrl a c) (setScan .matched (encCtrl a c) s) := by
  rw [rxBytes_ctrl a c s hc hs]
  exact rxByte_awaited (s := setScan (.reading 4) [FLAG, a, c, bcc1 a c] s) (b := FLAG) hc rfl h

/-- The phase waits for the frame `ENC_CTRL(a, c)` alone, and the step it takes on it fails with `ChannelError(e)`. -/
structure ReplyFails (e : ChanErr) (s : State) (a c : Byte) : Prop where
  control : s.ph.control = true
  awaited : s.awaited = [encCtrl a c]
  fails : FailedWith (.channelError e) s (onMatch (encCtrl a c) (setScan .matched (encCtrl a c) s))

/-- UA to SET cannot be written (R135). -/
theorem replyFails_orWaitSet (hp : s.ph = .orWaitSet) (herr : writeError (uaFrame s.p .responder) s = some e) :
    ReplyFails e s s.p.aIni s.p.cSet := by
  refine ⟨by rw [hp]; rfl, by simp only [State.awaited, hp], ?_⟩
  simp only [onMatch, setScan_ph, hp]
  exact failedWith_writeThen rfl herr

/-- UA to DISC of the Responder cannot be written (R137). -/
theorem replyFails_ciWaitDisc (hp : s.ph = .ciWaitDisc) (herr : writeError (uaFrame s.p .initiator) s = some e) :
    ReplyFails e s s.p.aRsp s.p.cDisc := by
  refine ⟨by rw [hp]; rfl, by simp only [State.awaited, hp], ?_⟩
  simp only [onMatch, setScan_ph, hp]
  exact failedWith_writeThen rfl herr

/-- DISC to DISC of the Initiator cannot be written (R139). -/
theorem replyFails_crWaitDisc (hp : s.ph = .crWaitDisc) (herr : writeError (discFrame s.p .responder) s = some e) :
    ReplyFails e s s.p.aIni s.p.cDisc := by
  refine ⟨by rw [hp]; rfl, by simp only [State.awaited, hp], ?_⟩
  simp only [onMatch, setScan_ph, hp]
  exact failedWith_writeThen rfl herr

/-- The fifth byte of the frame makes the phase's own step fail. -/
theorem ReplyFails.byte {a c b : Byte} {i : Instr} (h : ReplyFails e s a c) (hi : rxInstr s.ph b = some i)
    (hs : s.sc = .reading 4) (hb : s.rxbuf ++ [b] = encCtrl a c) :
    ∃ t, exec i s = .next t ∧ FailedWith (.channelError e) s t := by
  refine ⟨_, exec_rxInstr hi, ?_⟩
  rw [rxByte_awaited h.control hs (by simp [h.awaited, hb]), hb]
  exact h.fails

/-- The whole frame at an aligned station fails likewise. -/
theorem ReplyFails.frame {a c : Byte} {i : Instr} (h : ReplyFails e s a c)
    (hi : encode s.p i = some (.frame (encCtrl a c))) (hs : s.Aligned) :
    ∃ t, exec i s = .next t ∧ FailedWith (.channelError e) s t := by
  refine ⟨_, exec_wire i _ s hi, ?_⟩
  rw [rxBytes_awaited h.control hs (by simp [h.awaited])]
  exact h.fails

theorem rxFrameAccept_error (pl : Bytes) (herr : writeError (encCtrl (me s) (cRr s.p s.nr.toggle)) s = some e) :
    rxFrameAccept pl s = fatal (.channelError e) (writeCalled s) := writeThen_error _ _ s e herr

theorem encCtrl_injective_control (a : Byte) {c d : Byte} (h : encCtrl a c = encCtrl a d) : c = d := by
  have hbytes : c = d ∧ bcc1 a c = bcc1 a d := by simpa [encCtrl] using h
  exact hbytes.1

theorem expectedRej_ne_expectedRr (s : State) : expectedRej s ≠ expectedRr s := fun h =>
  cRr_ne_cRej s.p s.params.2 _ _ (encCtrl_injective_control (pa s) h).symm

/-- The awaited REJ makes SEND resend. -/
theorem onMatch_expectedRej (hp : s.ph = .txWaitAck) :
    onMatch (expectedRej s) (setScan .matched (expectedRej s) s) =
      rejMatched (setScan .matched (expectedRej s) s) := by
  simp only [onMatch, setScan_ph, hp]
  exact if_neg (expectedRej_ne_expectedRr s)

theorem cRr_toggle (p : ParamSet) (r : SeqBit) : cRr p r.toggle = if r = true then p.cRr0 else p.cRr1 := by
  cases r <;> rfl

end

/-- Settles O20: each step named is a `writeThen` on a state with the host's view of `s`, reached through its command,
its expiry, its REJ, or the byte or frame it answers. -/
theorem writeErrorsAreFatal : Obligations.WriteErrorsAreFatal := by
  intro e s fails peerRej
  refine ⟨fun hp hr ho herr => ?_, fun hp hr herr => ?_, fun hp hm herr => ?_, fun ha hlt herr => ?_,
    fun hp hlt herr => ?_, fun hp => ?_, fun hp herr => ?_, fun hp herr => ?_, fun hp herr => ?_⟩
  · refine ⟨_, exec_openCmd_of_closed hp, ?_⟩
    rw [openStep_initiator hr ho]
    exact failedWith_writeThen rfl herr
  · exact ⟨_, exec_closeCmd_initiator hp hr, failedWith_writeThen rfl herr⟩
  · refine ⟨_, exec_sendCmd_of_fits hp hm, ?_⟩
    unfold sendStep
    exact failedWith_writeThen rfl herr
  · have hf (ht : s.ph.timed = true) := failedWith_phaseRetry ht hlt herr
    refine ⟨fun hp => ⟨_, exec_oiWaitUaTimeout_of_armed hp ha, hf (by rw [hp]; rfl)⟩,
      fun hp => ⟨_, exec_ciWaitDiscTimeout_of_armed hp ha, hf (by rw [hp]; rfl)⟩,
      fun hp => ⟨_, exec_txWaitAckTimeout_of_armed hp ha, hf (by rw [hp]; rfl)⟩, fun hp => ?_⟩
    have ht : s.ph.timed = true := by rcases hp with hp | hp | hp <;> rw [hp] <;> rfl
    exact ⟨⟨_, exec_timeout_of_armed ha ht, hf ht⟩, ⟨_, whenEnabled_of_true ht _, hf ht⟩⟩
  · refine ⟨⟨_, whenEnabled_of_true (by simp [hp]) _, failedWith_rejMatched rfl hlt herr⟩, fun b hs hb => ?_⟩
    have hb : s.rxbuf ++ [b] = expectedRej s := hb
    have hmem : s.rxbuf ++ [b] ∈ s.awaited := by
      simp only [State.awaited, hp, hb]
      exact List.mem_cons_of_mem _ List.mem_cons_self
    refine ⟨_, exec_rxInstr (by rw [hp]; rfl), ?_⟩
    rw [rxByte_awaited (by rw [hp]; rfl) hs hmem, hb, onMatch_expectedRej hp]
    exact failedWith_rejMatched (u := setScan .matched (expectedRej s) s) rfl hlt herr
  · have hen : (s.ph == .rxFrame) = true := by simp [hp]
    refine ⟨fun herr => ⟨_, whenEnabled_of_true hen _, failedWith_writeThen rfl herr⟩, fun herr pl => ?_,
      fun herr => ⟨_, whenEnabled_of_true hen _, failedWith_writeThen rfl herr⟩⟩
    rw [← cRr_toggle] at herr
    exact ⟨_, whenEnabled_of_true hen _, failedWith_writeThen rfl herr, by rw [rxFrameAccept_error pl herr]; rfl⟩
  · have h := replyFails_orWaitSet hp herr
    exact ⟨h.frame rfl, fun b => h.byte (by rw [hp]; rfl)⟩
  · have h := replyFails_ciWaitDisc hp herr
    exact ⟨h.frame rfl, fun b => h.byte (by rw [hp]; rfl)⟩
  · have h := replyFails_crWaitDisc hp herr
    exact ⟨h.frame rfl, fun b => h.byte (by rw [hp]; rfl)⟩

end Sys2Proof.Machine

/-! Proofs of the family `30_encoding.md`: the decoder and the encoder, and what a whole frame does to the station it is
delivered to. -/

namespace Sys2Proof

/-! ## The decoder and the encoder (R70 to R77, R83) -/

@[simp] theorem format_dataInstr (r : Role) (sb : SeqBit) (pl : Bytes) : (dataInstr r sb pl).format = .data := by
  cases sb <;> rfl

/-- A command code is the encoding of the command it stands for (R83). -/
theorem encode_decodeCmd (p : ParamSet) (code : BitVec 2) : encode p (decodeCmd code) = some (.cmd code) := by
  have four : code = 0 ∨ code = 1 ∨ code = 2 ∨ code = 3 := by revert code; decide
  rcases four with rfl | rfl | rfl | rfl <;> rfl

/-- `i` is the control frame of the sender `r` with the code `c` (R76). -/
structure IsCtrl (p : ParamSet) (i : Instr) (r : Role) (c : Byte) : Prop where
  format : i.format = .ctrl
  code : c ∈ p.controls
  decodes : decodeCtrl p r c = .ok i

theorem isCtrl_set (p : ParamSet) : IsCtrl p .set .initiator p.cSet :=
  ⟨rfl, by simp [ParamSet.controls], by simp [decodeCtrl]⟩

/-- Both roles send these six, and R9 (b) tells their codes apart. -/
theorem isCtrl_of_role {p : ParamSet} (hp : p.Wf) :
    (∀ r, IsCtrl p (.ua r) r p.cUa) ∧ (∀ r, IsCtrl p (.disc r) r p.cDisc) ∧ (∀ r, IsCtrl p (.rr0 r) r p.cRr0) ∧
    (∀ r, IsCtrl p (.rr1 r) r p.cRr1) ∧ (∀ r, IsCtrl p (.rej0 r) r p.cRej0) ∧ ∀ r, IsCtrl p (.rej1 r) r p.cRej1 := by
  have distinct := controls_distinct p hp
  refine ⟨?_, ?_, ?_, ?_, ?_, ?_⟩ <;> exact fun r => ⟨rfl, by simp [ParamSet.controls], by grind [decodeCtrl]⟩

/-- Every operation with an encoding is a control frame of a role, a data frame of a role, or a command (R72, R73, R83);
those of format OP have none (R86). -/
theorem encode_cases {p : ParamSet} {i : Instr} {w : Input} (hp : p.Wf) (h : encode p i = some w) :
    (∃ r c, IsCtrl p i r c ∧ w = .frame (encCtrl (tag p r) c)) ∨
    (∃ r sb pl, i = dataInstr r sb pl ∧ w = .frame (encData p (tag p r) sb pl)) ∨
    ∃ code, i = decodeCmd code ∧ w = .cmd code := by
  obtain ⟨ua, disc, rr0, rr1, rej0, rej1⟩ := isCtrl_of_role hp
  cases i <;> cases h
  case set => exact .inl ⟨_, _, isCtrl_set p, rfl⟩
  case ua r => exact .inl ⟨_, _, ua r, rfl⟩
  case disc r => exact .inl ⟨_, _, disc r, rfl⟩
  case rr0 r => exact .inl ⟨_, _, rr0 r, rfl⟩
  case rr1 r => exact .inl ⟨_, _, rr1 r, rfl⟩
  case rej0 r => exact .inl ⟨_, _, rej0 r, rfl⟩
  case rej1 r => exact .inl ⟨_, _, rej1 r, rfl⟩
  case i0 r pl => exact .inr (.inl ⟨r, false, pl, rfl, rfl⟩)
  case i1 r pl => exact .inr (.inl ⟨r, true, pl, rfl, rfl⟩)
  case openCmd => exact .inr (.inr ⟨0, rfl, rfl⟩)
  case sendCmd => exact .inr (.inr ⟨1, rfl, rfl⟩)
  case receiveCmd => exact .inr (.inr ⟨2, rfl, rfl⟩)
  case closeCmd => exact .inr (.inr ⟨3, rfl, rfl⟩)

/-- A frame of format CTRL is a role's address and a code (R72). -/
theorem encode_frame_ctrl {p : ParamSet} {i : Instr} {f : Bytes} (hp : p.Wf) (hi : i.format = .ctrl)
    (h : encode p i = some (.frame f)) : ∃ r c, c ∈ p.controls ∧ f = encCtrl (tag p r) c := by
  obtain ⟨r, c, hc, hf⟩ | ⟨r, sb, pl, rfl, -⟩ | ⟨code, -, hw⟩ := encode_cases hp h
  · exact ⟨r, c, hc.code, Input.frame.inj hf⟩
  · simp at hi
  · cases hw

/-- A frame of format DATA is a role's address, a sequence bit and a payload (R73). -/
theorem encode_frame_data {p : ParamSet} {i : Instr} {f : Bytes} (hp : p.Wf) (hi : i.format = .data)
    (h : encode p i = some (.frame f)) : ∃ r sb pl, f = encData p (tag p r) sb pl := by
  obtain ⟨r, c, hc, -⟩ | ⟨r, sb, pl, -, hf⟩ | ⟨code, -, hw⟩ := encode_cases hp h
  · simp [hc.format] at hi
  · exact ⟨r, sb, pl, Input.frame.inj hf⟩
  · cases hw

/-- A data frame of a role's address decodes to its sequence bit and its payload: its region, never empty, is not the
lone delimiter of a control frame. -/
theorem decodeFrame_encData (p : ParamSet) (hp : p.Wf) (r : Role) (sb : SeqBit) (pl : Bytes) :
    decodeFrame p (encData p (tag p r) sb pl) = .ok (dataInstr r sb pl) := by
  have hlong : stuff pl ++ stuffedBcc2 pl ++ [FLAG] ≠ [FLAG] := fun h => by
    have hlen := (length_stuff_bounds [bcc2 pl]).1
    have := congrArg List.length h
    simp [stuffedBcc2] at this hlen
    omega
  calc decodeFrame p (encData p (tag p r) sb pl)
      = decodeFrame p (FLAG :: tag p r :: cI p sb :: bcc1 (tag p r) (cI p sb) ::
          (stuff pl ++ stuffedBcc2 pl ++ [FLAG])) := by simp [encData, dataHeader]
    _ = decodeDataRest r sb (stuff pl ++ stuffedBcc2 pl ++ [FLAG]) := by
      simp only [decodeFrame, roleOfTag_tag p hp, seqOfCode_cI p hp, if_true, if_neg hlong]
    _ = .ok (dataInstr r sb pl) := decodeDataRest_stuffed r sb pl

/-- Settles O41: a control frame is decided by its code, a data frame by its region, a command by its code. -/
theorem decodingUndoesEncoding : Obligations.DecodingUndoesEncoding := by
  intro p i w hp h
  obtain ⟨r, c, hc, rfl⟩ | ⟨r, sb, pl, rfl, rfl⟩ | ⟨code, rfl, rfl⟩ := encode_cases hp h
  · exact (decodeFrame_encCtrl p hp r c).trans hc.decodes
  · exact decodeFrame_encData p hp r sb pl
  · rfl

/-- Settles O42: the decoder takes a frame only if an encoder wrote it, and every command code is one. -/
theorem onlyEncodingsDecode : Obligations.OnlyEncodingsDecode := by
  intro p i w h
  cases w with
  | cmd code => cases h; exact encode_decodeCmd p code
  | frame bs => exact decodeFrame_eq_ok p bs i h
  | rx | timeout | rxerr | writeCfg | writeTxpay | hwReset => cases h

/-- Settles O43: each frame written out is what the encoder writes for its operation. -/
theorem writtenOutWordsDecode : Obligations.WrittenOutWordsDecode := by
  intro p hp
  have written {i : Instr} {w : Input} (h : encode p i = some w) : decode p w = .ok i :=
    decodingUndoesEncoding p i w hp h
  exact ⟨written rfl, written rfl, written rfl, written rfl, written rfl, written rfl, written rfl, rfl, rfl, rfl, rfl⟩

end Sys2Proof

namespace Sys2Proof.Machine

open Sys2Proof

/-! ## Commands out of place (R83, R130) -/

/-- Settles O18: each command's own test of the phase fails. -/
theorem commandsElsewhereAreRefused : Obligations.CommandsElsewhereAreRefused :=
  fun _ => ⟨fun h => congrArg Host.Outcome.next (if_neg h), fun h =>
    ⟨congrArg Host.Outcome.next (if_neg fun hboth => h hboth.1), congrArg Host.Outcome.next (if_neg h),
      congrArg Host.Outcome.next (if_neg h)⟩⟩

section
variable {s : State} {i : Instr}

/-! ## An awaited control frame at an aligned station (R76, R80) -/

/-- An operation that is an awaited frame runs the branch of the phase it finds. -/
theorem exec_awaited {a c : Byte} (hi : encode s.p i = some (.frame (encCtrl a c))) (hc : s.ph.control = true)
    (hs : s.Aligned) (h : encCtrl a c ∈ s.awaited) :
    exec i s = .next (onMatch (encCtrl a c) (setScan .matched (encCtrl a c) s)) := by
  rw [exec_wire i _ s hi, rxBytes_awaited hc hs h]

/-- The awaited RR completes SEND. -/
theorem exec_expectedRr (hp : s.ph = .txWaitAck) (hs : s.Aligned)
    (hi : encode s.p i = some (.frame (expectedRr s))) :
    exec i s = .next (ackAccepted (setScan .matched (expectedRr s) s)) := by
  rw [exec_awaited hi (by rw [hp]; rfl) hs (by simp [State.awaited, hp])]
  simp only [onMatch, setScan_ph, hp]
  exact congrArg Host.Outcome.next (if_pos rfl)

/-- A REJ below the budget is counted, and the frame is written again (R154). -/
theorem rejMatched_ok (hlt : s.rejcnt + 1 < s.maxRetries) (hw : s.WriteOk s.txbuf) :
    rejMatched s =
      setScan .waitDelimiter [] { sent s.txbuf s with rejcnt := s.rejcnt + 1, tarmed := true } := by
  rw [rejMatched_resend s (Nat.not_le.2 hlt)]
  exact writeThenArm_ok { timerCancel s with rejcnt := s.rejcnt + 1 } hw

/-- The awaited REJ, below the budget, writes the frame again and leaves the scanner as it found it. -/
theorem exec_expectedRej (hp : s.ph = .txWaitAck) (hs : s.Aligned) (hlt : s.rejcnt + 1 < s.maxRetries)
    (hw : s.WriteOk s.txbuf) (hi : encode s.p i = some (.frame (expectedRej s))) :
    exec i s = .next { sent s.txbuf s with rejcnt := s.rejcnt + 1, tarmed := true } := by
  rw [exec_awaited hi (by rw [hp]; rfl) hs (by simp [State.awaited, hp])]
  have resent := rejMatched_ok (s := setScan .matched (expectedRej s) s) hlt hw
  have realigned := setScan_aligned .matched (expectedRej s)
    { sent s.txbuf s with rejcnt := s.rejcnt + 1, tarmed := true } hs
  exact congrArg Host.Outcome.next ((onMatch_expectedRej hp).trans (resent.trans realigned))

end

/-- Settles O36: each frame is the one its phase awaits, so the phase's own branch runs and its reply is written. -/
theorem deliveredHandshakeFramesMoveTheSession : Obligations.DeliveredHandshakeFramesMoveTheSession := by
  intro s hs
  refine ⟨fun hp hw => ?_, fun hp => ?_, fun hp => ?_, fun hp hw => ?_, fun hp hw => ?_⟩
  all_goals
    rw [exec_awaited rfl (by rw [hp]; rfl) hs (by simp [State.awaited, hp, tag])]
    simp only [onMatch, setScan_ph, hp]
  case refine_2 | refine_3 => rfl
  all_goals exact congrArg Host.Outcome.next (writeThen_ok _ _ _ hw)

/-- Settles O37: with `NS` known, the RR and the REJ named are the awaited ones. -/
theorem deliveredAcknowledgmentsMoveSend : Obligations.DeliveredAcknowledgmentsMoveSend := by
  intro s hp hs acked resent
  have rr {i : Instr} {c : Byte} (hi : encode s.p i = some (.frame (encCtrl (pa s) c)))
      (hc : cRr s.p s.ns.toggle = c) : exec i s = .next (acked c) := by
    subst hc
    exact exec_expectedRr hp hs hi
  have rej {i : Instr} {c : Byte} (hi : encode s.p i = some (.frame (encCtrl (pa s) c)))
      (hc : cRej s.p s.ns = c) (hlt : s.rejcnt + 1 < s.maxRetries) (hw : s.WriteOk s.txbuf) :
      exec i s = .next resent := by
    subst hc
    exact exec_expectedRej hp hs hlt hw hi
  exact ⟨fun hns => rr rfl (by rw [hns]; rfl), fun hns => rr rfl (by rw [hns]; rfl),
    fun hns => rej rfl (by rw [hns]; rfl), fun hns => rej rfl (by rw [hns]; rfl)⟩

/-! ## A data frame at an aligned RECEIVE (R156) -/

/-- What stands between the two delimiters of a data frame (R73). -/
def dataBody (p : ParamSet) (a : Byte) (sb : SeqBit) (pl : Bytes) : Bytes :=
  a :: cI p sb :: bcc1 a (cI p sb) :: stuff (pl ++ [bcc2 pl])

theorem encData_eq_dataBody (p : ParamSet) (a : Byte) (sb : SeqBit) (pl : Bytes) :
    encData p a sb pl = FLAG :: (dataBody p a sb pl ++ [FLAG]) := encData_eq p a sb pl

theorem length_encData_dataBody (p : ParamSet) (a : Byte) (sb : SeqBit) (pl : Bytes) :
    (encData p a sb pl).length = (dataBody p a sb pl).length + 2 := by
  simp [encData_eq_dataBody]

/-- The header bytes are no delimiters (R9 (c)), and none survives stuffing. -/
theorem flag_not_mem_dataBody {p : ParamSet} (hp : p.Wf) (r : Role) (sb : SeqBit) (pl : Bytes) :
    FLAG ∉ dataBody p (tag p r) sb pl := by
  have ha := address_ne_flag p hp _ (tag_mem_addresses p r)
  have hc := control_ne_flag p hp _ (cI_mem_controls p sb)
  have hx := checksum1_ne_flag p hp _ _ (tag_mem_addresses p r) (cI_mem_controls p sb)
  simp [dataBody, ha.symm, hc.symm, hx.symm, flag_not_mem_stuff]

section
variable {s : State}

/-- A data frame of a role that fits the receive buffer comes down to its classification. -/
theorem rxBytes_encData (hp : s.ph = .rxFrame) (hs : s.Aligned) (r : Role) (sb : SeqBit) (pl : Bytes)
    (hf : s.p.runFits (encData s.p (tag s.p r) sb pl).length) :
    rxBytes (encData s.p (tag s.p r) sb pl) s = classify (.data (tag s.p r) (cI s.p sb) pl) s := by
  have hlong : 4 ≤ (dataBody s.p (tag s.p r) sb pl).length := by
    have := (length_encData s.p (tag s.p r) sb pl).1
    rw [length_encData_dataBody] at this
    omega
  rw [length_encData_dataBody] at hf
  rw [encData_eq_dataBody, rxBytes_frame _ s hp hs (flag_not_mem_dataBody s.params.2 r sb pl) hlong hf,
    ← encData_eq_dataBody, decData_encData]

/-- A data frame of the peer is new when it bears `NR`, a duplicate otherwise (R156). -/
theorem classify_peer (s : State) (sb : SeqBit) (pl : Bytes) :
    classify (.data (pa s) (cI s.p sb) pl) s = if sb = s.nr then rxFrameAccept pl s else rxFrameDup s := by
  simp [classify, seqOfCode_cI s.p s.params.2]

/-- A data frame with the station's own address does nothing (R156). -/
theorem classify_own (s : State) (sb : SeqBit) (pl : Bytes) :
    classify (.data (me s) (cI s.p sb) pl) s = s := by
  have hne : me s ≠ pa s := (tag_peer_ne s.p s.params.2 s.role).symm
  simp [classify, seqOfCode_cI s.p s.params.2, hne]

end

/-- Settles O38: the frame is classified as one of the peer, and the acknowledgment of either end is `RR(1 - s)`. -/
theorem deliveredDataFramesReachTheHost : Obligations.DeliveredDataFramesReachTheHost := by
  intro sb pl s hp hs hf i rr hw
  have hrr : rr = encCtrl (me s) (cRr s.p sb.toggle) := by rw [cRr_toggle]; rfl
  have hexec : exec i s = .next (if sb = s.nr then rxFrameAccept pl s else rxFrameDup s) := by
    have hi : encode s.p i = some (.frame (encData s.p (tag s.p s.role.peer) sb pl)) := by
      simp only [i]
      cases sb <;> rfl
    rw [exec_wire i _ s hi, rxBytes_encData hp hs _ sb pl hf]
    exact congrArg Host.Outcome.next (classify_peer s sb pl)
  rw [hrr] at hw
  rw [hexec, hrr]
  refine ⟨fun hsb => ?_, fun hsb => ?_⟩
  · rw [if_pos hsb]
    subst hsb
    exact congrArg Host.Outcome.next (writeThen_ok _ _ s hw)
  · rw [if_neg hsb]
    obtain rfl : sb = s.nr.toggle := Bool.eq_not.2 hsb
    rw [SeqBit.toggle, SeqBit.toggle, Bool.not_not] at hw ⊢
    exact congrArg Host.Outcome.next (writeThen_ok _ _ s hw)

/-! ## Frames that are not awaited (R80, R81, R113) -/

section
variable {s : State}

/-- Bytes that each leave the state leave it together. -/
theorem rxBytes_of_fixed {bs : Bytes} (h : ∀ b ∈ bs, rxByte b s = s) : rxBytes bs s = s := by
  induction bs with
  | nil => rfl
  | cons b bs ih =>
    rw [rxBytes_cons, h b List.mem_cons_self]
    exact ih fun c hc => h c (List.mem_cons_of_mem b hc)

theorem eq_encCtrl_of_mem_awaited {t : Bytes} (h : t ∈ s.awaited) : ∃ a c, t = encCtrl a c := by
  unfold State.awaited at h
  cases hp : s.ph <;> simp only [hp, List.mem_cons, List.not_mem_nil, or_false] at h
  case txWaitAck => rcases h with rfl | rfl <;> exact ⟨_, _, rfl⟩
  all_goals exact ⟨_, _, h⟩

/-- Between frames a control-scanner phase ignores what is no delimiter. -/
theorem rxByte_ignored {b : Byte} (hc : s.ph.control = true) (hs : s.sc = .waitDelimiter) (hb : b ≠ FLAG) :
    rxByte b s = s := by
  obtain ⟨hno, hafter⟩ := cscan_ignore b s.awaited s hs hb
  rw [rxByte_noMatch b s hc hno, hafter]

/-- A frame longer than a control frame is given up at its fifth byte; its closing delimiter starts another scan (R112,
R220). -/
theorem rxBytes_longFrame_control (hc : s.ph.control = true) (hs : s.Aligned) (a c b1 : Byte) {region : Bytes}
    (hne : region ≠ []) (hb : FLAG ∉ region) :
    rxBytes ([FLAG, a, c, b1] ++ (region ++ [FLAG])) s = setScan (.reading 1) [FLAG] s := by
  obtain ⟨x, xs, rfl⟩ := List.exists_cons_of_ne_nil hne
  obtain ⟨hx, hxs⟩ : x ≠ FLAG ∧ FLAG ∉ xs := by simpa [eq_comm] using hb
  have fifth : rxByte x (setScan (.reading 4) [FLAG, a, c, b1] s) = s := by
    have hnot : [FLAG, a, c, b1] ++ [x] ∉ s.awaited := fun h => by
      obtain ⟨a', c', h⟩ := eq_encCtrl_of_mem_awaited h
      simp [encCtrl, hx] at h
    obtain ⟨hno, hafter⟩ := cscan_noMatch x s.awaited (setScan (.reading 4) [FLAG, a, c, b1] s) rfl hnot
    rw [rxByte_noMatch x (setScan (.reading 4) [FLAG, a, c, b1] s) hc hno, awaited_setScan, hafter]
    exact setScan_aligned _ _ s hs
  have others : rxBytes xs s = s :=
    rxBytes_of_fixed fun b hmem => rxByte_ignored hc hs.1 (ne_of_mem_of_not_mem hmem hxs)
  obtain ⟨hno, hafter⟩ := cscan_flag s.awaited s hs.1
  rw [rxBytes_append, rxBytes_four a c b1 s hc hs, List.cons_append, rxBytes_cons, fifth, rxBytes_append, others,
    rxBytes_cons, rxBytes_nil, rxByte_noMatch FLAG s hc hno, hafter]

theorem rxBytes_encData_control (hc : s.ph.control = true) (hs : s.Aligned) (a : Byte) (sb : SeqBit) (pl : Bytes) :
    rxBytes (encData s.p a sb pl) s = setScan (.reading 1) [FLAG] s := by
  have hne : stuff (pl ++ [bcc2 pl]) ≠ [] := fun h => by simpa using congrArg destuff h
  rw [encData_eq]
  exact rxBytes_longFrame_control hc hs a (cI s.p sb) (bcc1 a (cI s.p sb)) hne (flag_not_mem_stuff _)

/-- A control frame is a run too short for `RX_FRAME` (R113). -/
theorem rxBytes_ctrl_rxFrame (hp : s.ph = .rxFrame) (hs : s.Aligned) (r : Role) {c : Byte} (hc : c ∈ s.p.controls) :
    rxBytes (encCtrl (tag s.p r) c) s = s := by
  have hw := s.params.2
  have hb : FLAG ∉ [tag s.p r, c, bcc1 (tag s.p r) c] := by
    simp [(address_ne_flag _ hw _ (tag_mem_addresses s.p r)).symm, (control_ne_flag _ hw c hc).symm,
      (checksum1_ne_flag _ hw _ c (tag_mem_addresses s.p r) hc).symm]
  exact rxBytes_short _ s hp hs hb (by simp) (runFits_mono _ (runFits_seven s.params) (by simp))

/-- Once the receive buffer has overflowed every byte but a delimiter is dropped (R113). -/
theorem rxByte_overflow {b : Byte} (hp : s.ph = .rxFrame) (hs : s.sc = .overflow) (hb : b ≠ FLAG) :
    rxByte b s = s := by
  rw [rxByte_noFrame b s hp (by simp [dscanResult, dscanFrame, hs])]
  cases s
  simp_all [afterDscan, dscanNext, setScan]

/-- Bytes without a delimiter that do not fit end in `Overflow` with an empty buffer. -/
theorem rxBytes_overflow (bs : Bytes) (n : Nat) (hp : s.ph = .rxFrame) (hs : s.sc = .reading n) (hb : FLAG ∉ bs)
    (hroom : s.p.runFits (n + 1)) (hlong : ¬ s.p.runFits (n + bs.length + 1)) :
    rxBytes bs s = setScan .overflow [] s := by
  induction bs generalizing s n with
  | nil => exact absurd hroom hlong
  | cons b bs ih =>
    obtain ⟨hb, hbs⟩ : b ≠ FLAG ∧ FLAG ∉ bs := by simpa [eq_comm] using hb
    rw [rxBytes_cons]
    cases hr : noRoom s.p n with
    | true =>
      have full : rxByte b s = setScan .overflow [] s := by
        rw [rxByte_noFrame b s hp (by simp [dscanResult, dscanFrame, hs, hb])]
        simp [afterDscan, dscanNext, hs, hb, hr]
      rw [full]
      exact rxBytes_of_fixed fun c hc => rxByte_overflow hp rfl (ne_of_mem_of_not_mem hc hbs)
    | false =>
      obtain ⟨hno, hafter⟩ := dscan_reading b s n hs hb hr
      have hlong' : n + (b :: bs).length + 1 = n + 1 + bs.length + 1 := by simp; omega
      rw [rxByte_noFrame b s hp hno, hafter]
      exact ih (s := setScan (.reading (n + 1)) (s.rxbuf ++ [b]) s) (n + 1) hp rfl hbs
        ((noRoom_eq_false _ _).1 hr) (hlong' ▸ hlong)

/-- A run that does not fit the receive buffer leaves no trace (decision D9). -/
theorem rxBytes_overlong {body : Bytes} (hp : s.ph = .rxFrame) (hs : s.Aligned) (hb : FLAG ∉ body)
    (hf : ¬ s.p.runFits (body.length + 2)) : rxBytes (FLAG :: (body ++ [FLAG])) s = s := by
  obtain ⟨hno, hafter⟩ := dscan_flag_start s hs.1
  have overflow : rxBytes body (setScan (.reading 1) [FLAG] s) = setScan .overflow [] s :=
    rxBytes_overflow (s := setScan (.reading 1) [FLAG] s) body 1 hp rfl hb
      (runFits_mono _ (runFits_seven s.params) (by omega)) (by rwa [Nat.add_right_comm, Nat.add_comm])
  rw [rxBytes_cons, rxByte_noFrame FLAG s hp hno, hafter, rxBytes_append, overflow, rxBytes_cons, rxBytes_nil,
    rxByte_noFrame FLAG (setScan .overflow [] s) hp rfl]
  exact setScan_aligned .overflow [] s hs

theorem rxBytes_encData_overlong (hp : s.ph = .rxFrame) (hs : s.Aligned) (r : Role) (sb : SeqBit) (pl : Bytes)
    (hf : ¬ s.p.runFits (encData s.p (tag s.p r) sb pl).length) : rxBytes (encData s.p (tag s.p r) sb pl) s = s := by
  rw [length_encData_dataBody] at hf
  rw [encData_eq_dataBody]
  exact rxBytes_overlong hp hs (flag_not_mem_dataBody s.params.2 r sb pl) hf

/-- A data frame with the station's own address leaves no trace, whether it fits the buffer or not (R81). -/
theorem rxBytes_encData_own (hp : s.ph = .rxFrame) (hs : s.Aligned) (sb : SeqBit) (pl : Bytes) :
    rxBytes (encData s.p (me s) sb pl) s = s := by
  by_cases hf : s.p.runFits (encData s.p (me s) sb pl).length
  · exact (rxBytes_encData hp hs s.role sb pl hf).trans (classify_own s sb pl)
  · exact rxBytes_encData_overlong hp hs s.role sb pl hf

end

/-- Settles O39: an operation with a frame receives its bytes, and each kind of frame is lost as its phase loses it. -/
theorem unawaitedFramesAreDroppedSilently : Obligations.UnawaitedFramesAreDroppedSilently := by
  intro i f s hi
  rw [exec_wire i f s hi]
  refine ⟨fun hp => congrArg _ (rxBytes_notReading f s hp), fun hs => ⟨fun hfmt hc hf => ?_, fun hfmt hc => ?_,
    fun hfmt hp => ?_, fun sb pl hp hf => ?_, fun hfmt hp hf => ?_⟩⟩
  · obtain ⟨r, c, -, rfl⟩ := encode_frame_ctrl s.params.2 hfmt hi
    rw [rxBytes_ctrl_dropped _ c s hc hs hf]
  · obtain ⟨r, sb, pl, rfl⟩ := encode_frame_data s.params.2 hfmt hi
    rw [rxBytes_encData_control hc hs]
    rfl
  · obtain ⟨r, c, hcode, rfl⟩ := encode_frame_ctrl s.params.2 hfmt hi
    rw [rxBytes_ctrl_rxFrame hp hs r hcode]
  · rw [hf]
    exact congrArg _ (rxBytes_encData_own hp hs sb pl)
  · obtain ⟨r, sb, pl, rfl⟩ := encode_frame_data s.params.2 hfmt hi
    rw [rxBytes_encData_overlong hp hs r sb pl hf]

end Sys2Proof.Machine

/-! Proofs of the family `40_codec.md`: checksums, stuffing, the frames and their decoding, and what the two scanners do
with one byte. -/

namespace Sys2Proof

/-! ## Stuffing a byte at a time (R102, R103) -/

theorem stuff_flag : stuff [FLAG] = [ESC, ESC_FLAG] := rfl

theorem stuff_esc : stuff [ESC] = [ESC, ESC_ESC] := rfl

theorem stuff_plain {b : Byte} (hf : b ≠ FLAG) (he : b ≠ ESC) : stuff [b] = [b] := by
  simp [stuff_cons, hf, he]

/-- Stuffing lengthens a text by one byte for each byte it escapes. -/
theorem length_stuff (bs : Bytes) :
    (stuff bs).length = bs.length + (bs.filter fun b => b = FLAG ∨ b = ESC).length := by
  induction bs with
  | nil => rfl
  | cons b bs ih =>
    rw [stuff_cons, List.length_append, ih]
    by_cases hb : b = FLAG ∨ b = ESC
    · rw [if_pos hb, List.filter_cons_of_pos (by simpa using hb)]
      simp only [List.length_cons, List.length_nil]
      omega
    · rw [if_neg hb, List.filter_cons_of_neg (by simpa using hb)]
      simp only [List.length_cons, List.length_nil]
      omega

/-- Checksum2 is stuffed like payload: the two escaped values have their substitutes (R104). -/
theorem stuffedBcc2_eq (p : Bytes) : stuffedBcc2 p =
    if bcc2 p = FLAG then [ESC, ESC_FLAG] else if bcc2 p = ESC then [ESC, ESC_ESC] else [bcc2 p] := by
  unfold stuffedBcc2
  split
  case isTrue hf => rw [hf, stuff_flag]
  case isFalse hf =>
    split
    case isTrue he => rw [he, stuff_esc]
    case isFalse he => exact stuff_plain hf he

/-- A stuffed text is the stuffed bytes one after the other. -/
theorem stuff_eq_flatten (bs : Bytes) : stuff bs = (bs.map fun b => stuff [b]).flatten := by
  induction bs with
  | nil => rfl
  | cons b bs ih => rw [List.map_cons, List.flatten_cons, ← ih, ← stuff_append, List.singleton_append]

/-- What one byte is stuffed to: one of the two pairs, or itself. -/
theorem stuff_singleton_cases (b : Byte) : stuff [b] = [ESC, ESC_FLAG] ∨ stuff [b] = [ESC, ESC_ESC] ∨
    ∃ x, x ≠ FLAG ∧ x ≠ ESC ∧ stuff [b] = [x] := by
  by_cases hf : b = FLAG
  · exact .inl (by rw [hf, stuff_flag])
  by_cases he : b = ESC
  · exact .inr (.inl (by rw [he, stuff_esc]))
  · exact .inr (.inr ⟨b, hf, he, stuff_plain hf he⟩)

/-! ## Delimited runs (R110) -/

/-- Four bytes or more without a delimiter, between two delimiters, are a run. -/
theorem isRun_of_body {body : Bytes} (hlen : 4 ≤ body.length) (hb : FLAG ∉ body) :
    isRun (FLAG :: (body ++ [FLAG])) = true := by
  have hlast : (FLAG :: (body ++ [FLAG])).getLast? = some FLAG := List.getLast?_concat (l := FLAG :: body)
  simp [isRun, hb, hlen, hlast, DATA_MIN_LEN]

section
variable {a c b1 : Byte} {region : Bytes}

/-- A wrong checksum1 is found before the region is looked at (R109). -/
theorem decData_checksum1 (f : Byte) (h : b1 ≠ bcc1 a c) :
    decData (f :: a :: c :: b1 :: (region ++ [FLAG])) = .checksum1Mismatch := by
  rw [decData_run, if_neg h]

/-- A dangling escape is a checksum2 mismatch (decision D16). -/
theorem decData_malformed (f : Byte) (h : destuff region = none) :
    decData (f :: a :: c :: bcc1 a c :: (region ++ [FLAG])) = .checksum2Mismatch a c := by
  rw [decData_run, if_pos rfl, h]

/-- The last destuffed byte is checksum2 of those before it, or a mismatch. -/
theorem decData_destuffed (f : Byte) {d : Bytes} {b2 : Byte} (h : destuff region = some (d ++ [b2])) :
    decData (f :: a :: c :: bcc1 a c :: (region ++ [FLAG])) =
      if bcc2 d = b2 then .data a c d else .checksum2Mismatch a c := by
  rw [decData_run, if_pos rfl, h]
  exact checkRegion_append a c d b2

end

/-- The control bytes of the two data frames (R77). -/
theorem exists_eq_cI_iff (p : ParamSet) (c : Byte) : (∃ sb, c = cI p sb) ↔ c = p.cI0 ∨ c = p.cI1 := by
  simp [cI]

end Sys2Proof

namespace Sys2Proof.Machine

open Sys2Proof

/-! ## The codec's operations (R100 to R111) -/

/-- Settles O4: both checksums fold the exclusive-or, in either order. -/
theorem checksumsAreXorFolds : Obligations.ChecksumsAreXorFolds := by
  intro a c b p s
  rw [← bcc2_eq_foldr, ← bcc2_append]
  exact ⟨rfl, rfl, rfl, rfl⟩

/-- Settles O5: the text is stuffed byte by byte, and checksum2 as a text of one byte. -/
theorem stuffingReplacesDelimiterAndEscape : Obligations.StuffingReplacesDelimiterAndEscape := by
  intro bs p s
  rw [← bcc2_eq_foldr]
  exact ⟨⟨stuff bs, rfl, stuff_eq_flatMap bs, length_stuff bs⟩,
    congrArg (fun out => Host.Outcome.next (giveBack (.bytes out) s)) (stuffedBcc2_eq p)⟩

section
variable {s : State} {r d : Bytes}

theorem exec_destuff_malformed_iff :
    exec (.destuff r) s = .next { s with opResult := .malformed } ↔ destuff r = none := by
  cases h : destuff r <;> simp [exec, execDestuff, giveBack, h]

theorem exec_destuff_bytes_iff :
    exec (.destuff r) s = .next { s with opResult := .bytes d } ↔ destuff r = some d := by
  cases h : destuff r <;> simp [exec, execDestuff, giveBack, h]

end

/-- Settles O6: `stuff` splits over its bytes, and `destuff` is its left inverse. -/
theorem stuffingIsReversible : Obligations.StuffingIsReversible := by
  intro b1 b2 s
  refine ⟨stuff b1, stuff b2, rfl, rfl, exec_destuff_bytes_iff.2 (destuff_stuff b1),
    ⟨b1.map fun b => stuff [b], stuff_eq_flatten b1, fun u hu => ?_⟩, flag_not_mem_stuff b1,
    congrArg (fun out => Host.Outcome.next (giveBack (.bytes out) s)) (stuff_append b1 b2), stuff_injective b1 b2, rfl⟩
  obtain ⟨b, -, rfl⟩ := List.mem_map.1 hu
  exact stuff_singleton_cases b

/-- Settles O7: the cases are those of what the rest of the text destuffs to. -/
theorem destuffingFollowsItsEquations : Obligations.DestuffingFollowsItsEquations := by
  intro x b r s hb
  have pair : destuff (0x7D :: x :: r) = (destuff r).map ((x ^^^ 0x20) :: ·) := destuff_esc_cons x r
  have plain : destuff (b :: r) = (destuff r).map (b :: ·) := destuff_cons_ne b r hb
  refine ⟨exec_destuff_bytes_iff.2 destuff_nil, exec_destuff_malformed_iff.2 destuff_esc, ?_⟩
  simp only [exec_destuff_bytes_iff, exec_destuff_malformed_iff, pair, plain]
  cases h : destuff r with
  | none => exact .inr ⟨rfl, rfl, rfl⟩
  | some d => exact .inl ⟨d, length_destuff_le r d h, rfl, rfl, rfl⟩

/-- Settles O8: the template is the frame. -/
theorem controlFramesHaveFiveBytes : Obligations.ControlFramesHaveFiveBytes :=
  fun _ _ _ => ⟨rfl, rfl⟩

/-- Settles O9: with an address of the parameter set the frame is that of a role, whose header bytes R9 (c) keeps from
being delimiters. -/
theorem dataFramesAreDelimitedByTheirEnds : Obligations.DataFramesAreDelimitedByTheirEnds := by
  intro a sb pl s
  refine ⟨stuff (pl ++ [bcc2 pl]), ?_⟩
  intro c f
  have hf : encData s.p a sb pl = f := encData_eq s.p a sb pl
  obtain ⟨least, most⟩ := length_encData s.p a sb pl
  rw [← hf, ← bcc2_eq_foldr]
  refine ⟨rfl, stuff_eq_flatMap _, least, most, ?_⟩
  rintro (rfl | rfl)
  · exact flag_not_mem_dataBody s.params.2 .initiator sb pl
  · exact flag_not_mem_dataBody s.params.2 .responder sb pl

theorem isRun_encData {p : ParamSet} (hp : p.Wf) (r : Role) (sb : SeqBit) (pl : Bytes) :
    isRun (encData p (tag p r) sb pl) = true := by
  have hlen := (length_encData p (tag p r) sb pl).1
  rw [length_encData_dataBody] at hlen
  rw [encData_eq_dataBody]
  exact isRun_of_body (by omega) (flag_not_mem_dataBody hp r sb pl)

theorem exec_decData_of_isRun {raw : Bytes} {d : Decoded} (h : isRun raw = true) (hd : decData raw = d) (s : State) :
    exec (.decData raw) s = .next { s with opResult := .decoded d } := by
  simp [exec, execDecData, giveBack, h, hd]

/-- Settles O10: a header, a region and a delimiter are a run, which is decoded in the order of R110. -/
theorem decodingChecksChecksum1First : Obligations.DecodingChecksChecksum1First := by
  intro a c b1 region s hb hne raw
  have hlen : 4 ≤ (a :: c :: b1 :: region).length := by
    have := List.length_pos_of_ne_nil hne
    simp
    omega
  have hrun : isRun raw = true := isRun_of_body hlen hb
  refine ⟨fun hb1 => exec_decData_of_isRun hrun (decData_checksum1 _ hb1) s, fun hb1 hd => ?_, fun d b2 hb1 hd => ?_⟩
  all_goals subst hb1
  · exact exec_decData_of_isRun hrun (decData_malformed _ (exec_destuff_malformed_iff.1 hd)) s
  · rw [← bcc2_eq_foldr]
    exact exec_decData_of_isRun hrun (decData_destuffed _ (exec_destuff_bytes_iff.1 hd)) s

/-- Settles O11: the frame of a role is a run, and decoding undoes encoding. -/
theorem encodedDataFramesDecodeToTheirPayload : Obligations.EncodedDataFramesDecodeToTheirPayload := by
  intro r sb pl s
  exact exec_decData_of_isRun (isRun_encData s.params.2 r sb pl) (decData_encData s.p (tag s.p r) sb pl) s

/-! ## One byte at the control scanner (R112) -/

section
variable {b : Byte} {ts : List Bytes} {s t : State}

theorem exec_cscan_noMatch (h : cscanResult b ts s = none ∧ afterCscan b ts s = t) :
    exec (.cscan b ts) s = .next { t with opResult := .noMatch } := by
  obtain ⟨hno, hafter⟩ := h
  simp [exec, execCscan, giveBack, hno, hafter]

theorem exec_cscan_match {f : Bytes} (h : cscanResult b ts s = some f ∧ afterCscan b ts s = t) :
    exec (.cscan b ts) s = .next { t with opResult := .isMatch f } := by
  obtain ⟨hmatch, hafter⟩ := h
  simp [exec, execCscan, giveBack, hmatch, hafter]

/-- Only the fifth byte of a template matches. -/
theorem cscanResult_eq_none (hi : ∀ i, s.sc = .reading i → i ≤ 4) (hn : s.sc = .reading 4 → s.rxbuf ++ [b] ∉ ts) :
    cscanResult b ts s = none := by
  cases hs : s.sc with
  | reading i =>
    rcases (hi i hs).lt_or_eq with hlt | rfl
    · exact (cscan_reading b ts s i hs (by omega)).1
    · exact (cscan_noMatch b ts s hs (hn hs)).1
  | waitDelimiter | overflow | matched => simp [cscanResult, cscanMatch, hs]

end

/-- Settles O12: the five clauses are the five cases of R112. -/
theorem controlScannerCountsFiveBytes : Obligations.ControlScannerCountsFiveBytes := by
  intro b ts s
  refine ⟨fun hs hb => exec_cscan_noMatch (cscan_ignore b ts s hs hb), fun hs hb => ?_,
    fun i hs hi => exec_cscan_noMatch (cscan_reading b ts s i hs hi),
    fun hs h => exec_cscan_match (cscan_match b ts s hs h),
    fun hs h => exec_cscan_noMatch (cscan_noMatch b ts s hs h)⟩
  subst hb
  exact exec_cscan_noMatch (cscan_flag ts s hs)

/-- Settles O24: in each phase the byte is received, matches nothing, and moves the scanner alone. -/
theorem unmatchedBytesOnlyMoveTheScanner : Obligations.UnmatchedBytesOnlyMoveTheScanner := by
  intro b s hi hn scan moved
  have hno := cscanResult_eq_none hi hn
  have moves {i : Instr} (hinstr : rxInstr s.ph b = some i) (hc : s.ph.control = true) : exec i s = .next moved := by
    rw [exec_rxInstr hinstr, rxByte_noMatch b s hc hno]
    rfl
  refine ⟨exec_cscan_noMatch ⟨hno, rfl⟩, fun hp => ?_, fun hp => ?_, fun hp => ?_, fun hp => ?_, fun hp => ?_,
    fun hp => ?_⟩
  all_goals exact moves (by rw [hp]; rfl) (by rw [hp]; rfl)

/-! ## One byte at the data scanner (R113) -/

section
variable {b : Byte} {s t : State}

theorem exec_dscan_noFrame (h : dscanResult b s = none ∧ afterDscan b s = t) :
    exec (.dscan b) s = .next { t with opResult := .noFrame } := by
  obtain ⟨hno, hafter⟩ := h
  simp [exec, execDscan, giveBack, hno, hafter]

theorem exec_dscan_frame {raw : Bytes} (h : dscanResult b s = some raw ∧ afterDscan b s = t) :
    exec (.dscan b) s = .next { t with opResult := .isFrame raw } := by
  obtain ⟨hrun, hafter⟩ := h
  simp [exec, execDscan, giveBack, hrun, hafter]

theorem dscan_ignore (hs : s.sc = .waitDelimiter) (hb : b ≠ FLAG) :
    dscanResult b s = none ∧ afterDscan b s = s := by
  constructor
  · simp [dscanResult, dscanFrame, hs]
  · cases s; simp_all [afterDscan, dscanNext, setScan]

/-- A byte that leaves no room for the closing delimiter overflows the buffer (decision D9). -/
theorem dscan_full {i : Nat} (hs : s.sc = .reading i) (hb : b ≠ FLAG) (hr : noRoom s.p i = true) :
    dscanResult b s = none ∧ afterDscan b s = setScan .overflow [] s := by
  simp [dscanResult, dscanFrame, afterDscan, dscanNext, hs, hb, hr]

theorem dscan_overflow_ignore (hs : s.sc = .overflow) (hb : b ≠ FLAG) :
    dscanResult b s = none ∧ afterDscan b s = s := by
  constructor
  · simp [dscanResult, dscanFrame, hs]
  · cases s; simp_all [afterDscan, dscanNext, setScan]

/-- The delimiter that ends an overlong run is consumed. -/
theorem dscan_overflow_flag (hs : s.sc = .overflow) :
    dscanResult FLAG s = none ∧ afterDscan FLAG s = setScan .waitDelimiter s.rxbuf s := by
  simp [dscanResult, dscanFrame, afterDscan, dscanNext, hs]

theorem noRoom_of_cap {p : ParamSet} {cap i : Nat} (hcap : p.rxCap = some cap) (h : cap ≤ i + 1) :
    noRoom p i = true := by
  simp [noRoom, hcap, h]

theorem noRoom_eq_false_of_cap {p : ParamSet} {i : Nat} (h : ∀ cap, p.rxCap = some cap → i + 1 < cap) :
    noRoom p i = false := by
  cases hcap : p.rxCap with
  | none => simp [noRoom, hcap]
  | some cap => simp [noRoom, hcap, h cap hcap]

/-- Only a delimiter after five bytes or more ends a run (decision D14). -/
theorem dscanResult_eq_none (h : ∀ i, s.sc = .reading i → b = FLAG → i + 1 < 6) : dscanResult b s = none := by
  cases hs : s.sc with
  | reading i =>
    by_cases hb : b = FLAG
    · subst hb
      exact (dscan_short s i hs (h i hs rfl)).1
    · simp [dscanResult, dscanFrame, hs, hb]
  | waitDelimiter | overflow | matched => simp [dscanResult, dscanFrame, hs]

end

/-- Settles O13: the clauses are the cases of R113. -/
theorem dataScannerReadsToTheNextDelimiter : Obligations.DataScannerReadsToTheNextDelimiter := by
  intro b s
  refine ⟨fun hs hb => exec_dscan_noFrame (dscan_ignore hs hb), fun hs hb => ?_, fun i hs hb hi => ?_,
    fun i hs hb hi => ?_,
    fun i cap hs hb hcap hi => exec_dscan_noFrame (dscan_full hs hb (noRoom_of_cap hcap hi)),
    fun i hs hb hcap => exec_dscan_noFrame (dscan_reading b s i hs hb (noRoom_eq_false_of_cap hcap)),
    fun hs hb => exec_dscan_noFrame (dscan_overflow_ignore hs hb), fun hs hb => ?_⟩
  all_goals subst hb
  · exact exec_dscan_noFrame (dscan_flag_start s hs)
  · exact exec_dscan_noFrame (dscan_short s i hs hi)
  · exact exec_dscan_frame (dscan_close s i hs hi)
  · exact exec_dscan_noFrame (dscan_overflow_flag hs)

/-- Settles O14: each operation is the record update of its rule. -/
theorem scannerTimerAndReleaseWriteOnlyTheirOwn : Obligations.ScannerTimerAndReleaseWriteOnlyTheirOwn :=
  fun _ => ⟨rfl, rfl, rfl, rfl⟩

/-! ## The class of a run (R156) -/

/-- The header is that of a data frame of the peer. -/
def State.DataOfPeer (s : State) (a c : Byte) : Prop := a = pa s ∧ ∃ sb, c = cI s.p sb

section
variable {s : State} {a c : Byte}

theorem dataOfPeer_iff : s.DataOfPeer a c ↔ a = pa s ∧ (c = s.p.cI0 ∨ c = s.p.cI1) :=
  and_congr_right fun _ => exists_eq_cI_iff s.p c

theorem classify_checksum2_peer (h : s.DataOfPeer a c) : classify (.checksum2Mismatch a c) s = rxFrameC2 s := by
  obtain ⟨rfl, sb, rfl⟩ := h
  simp [classify, seqOfCode_cI s.p s.params.2]

theorem classify_checksum2_other (h : ¬ s.DataOfPeer a c) : classify (.checksum2Mismatch a c) s = s := by
  simp only [classify]
  split
  · rfl
  · rename_i sb hsb
    exact if_neg fun ha => h ⟨ha, sb, seqOfCode_eq_some s.p c sb hsb⟩

theorem classify_data_other (h : ¬ s.DataOfPeer a c) (pl : Bytes) : classify (.data a c pl) s = s := by
  simp only [classify]
  split
  · rfl
  · rename_i sb hsb
    exact if_neg fun ha => h ⟨ha, sb, seqOfCode_eq_some s.p c sb hsb⟩

theorem classify_data_new (h : s.DataOfPeer a c) (hc : c = cI s.p s.nr) (pl : Bytes) :
    classify (.data a c pl) s = rxFrameAccept pl s := by
  obtain ⟨rfl, -⟩ := h
  rw [hc, classify_peer s s.nr pl, if_pos rfl]

theorem classify_data_dup (h : s.DataOfPeer a c) (hc : c ≠ cI s.p s.nr) (pl : Bytes) :
    classify (.data a c pl) s = rxFrameDup s := by
  obtain ⟨rfl, sb, rfl⟩ := h
  have hsb : sb ≠ s.nr := fun heq => hc (heq ▸ rfl)
  rw [classify_peer s sb pl, if_neg hsb]

/-- The delimiter that ends a run resets the scanner and classifies the run. -/
theorem exec_rxFrameRx_run {i : Nat} (hp : s.ph = .rxFrame) (hs : s.sc = .reading i) (hi : 6 ≤ i + 1) :
    exec (.rxFrameRx FLAG) s = .next (classify (decData (s.rxbuf ++ [FLAG])) (setScan .waitDelimiter [] s)) := by
  obtain ⟨hrun, hafter⟩ := dscan_close s i hs hi
  rw [exec_rxInstr (b := FLAG) (by rw [hp]; rfl), rxByte_frame FLAG s _ hp hrun, hafter]

end

/-- Settles O35: a byte moves the scanner, or ends a run that `classify` puts into one of the classes of R156. -/
theorem receiveClassifiesRunsInOrder : Obligations.ReceiveClassifiesRunsInOrder := by
  intro b s
  refine ⟨fun hp => congrArg Host.Outcome.next (if_pos hp), fun hp hshort => ?_, fun i hp hs hi => ?_⟩
  · intro scan moved
    have hno := dscanResult_eq_none hshort
    refine ⟨exec_dscan_noFrame ⟨hno, rfl⟩, ?_⟩
    rw [exec_rxInstr (b := b) (by rw [hp]; rfl), rxByte_noFrame b s hp hno]
    rfl
  · intro raw t ours
    have hrun : exec (.rxFrameRx 0x7E) s = .next (classify (decData raw) t) := exec_rxFrameRx_run hp hs hi
    have peer {a c : Byte} : ours a c ↔ t.DataOfPeer a c := (dataOfPeer_iff (s := t)).symm
    have enabled (u : State) : whenEnabled (t.ph == .rxFrame) u = .next u := whenEnabled_of_true (by simp [t, hp]) u
    simp only [peer]
    rw [hrun]
    refine ⟨fun hd => ?_, fun a c hd h => ?_, fun a c hd h => ?_, fun a c pl hd h => ?_, fun a c pl hd h hc => ?_,
      fun a c pl hd h hc => ?_⟩ <;> rw [hd]
    · exact (enabled _).symm
    · rw [classify_checksum2_peer h]
      exact (enabled _).symm
    · rw [classify_checksum2_other h]
    · rw [classify_data_other h]
    · rw [classify_data_new h hc]
      exact (enabled _).symm
    · rw [classify_data_dup h hc]
      exact (enabled _).symm

end Sys2Proof.Machine

/-! Proofs of the family `41_handshake.md`: how OPEN and CLOSE start and end, what an expiry does in the three timed
phases, and how an OPEN fares whose SET frames are lost. -/

namespace Sys2Proof.Machine

open Sys2Proof

/-! ## Channel errors (R141, R161) -/

/-- Settles O19: the error step of the phase's family is enabled, and it is the fatal path. -/
theorem readErrorsAreFatal : Obligations.ReadErrorsAreFatal := by
  intro e s failed
  have handshake (h : s.ph.handshake = true) : exec (.handshakeRxerr e) s = .next failed := whenEnabled_of_true h _
  have arq (h : s.ph.arq = true) : exec (.arqRxerr e) s = .next failed := whenEnabled_of_true h _
  constructor
  · rintro (hp | hp | hp | hp | hp) <;> exact handshake (by rw [hp]; rfl)
  · rintro (hp | hp) <;> exact arq (by rw [hp]; rfl)

section
variable {s : State}

/-! ## The start of OPEN (R131, R132, R135) -/

/-- A role code that is no role stops OPEN before the channel is asked for (decision D4). -/
theorem openStep_invalidRole (hr : roleOfCode s.cfg.role = none) : openStep s = complete .invalidRole .none s := by
  simp [openStep, hr]

/-- A channel that cannot be opened stops OPEN before there is a session (decision D29). -/
theorem openStep_channelError {r : Role} {e : ChanErr} (hr : roleOfCode s.cfg.role = some r)
    (ho : openAnswer s = .error e) : openStep s = complete (.channelError e) .none (openCalled s) := by
  simp [openStep, hr, ho]

/-- OPEN as Responder, on an acquired channel. -/
theorem openStep_responder (hr : s.cfg.role = 1) (ho : openAnswer s = .ok) :
    openStep s = openResponder (sessionReset (chanHold (openCalled s))) := by
  simp [openStep, roleOfCode, openSession, hr, ho]

theorem openCalled_of_listed {a : OpenAnswer} {os : List OpenAnswer} (h : s.openAnswers = a :: os) :
    openCalled s =
      { s with
        openCalls := s.openCalls ++ [(s.cfg.channelId, s.cfg.baud)]
        openAnswers := os
        freeCount := s.freeCount + 1 } := by
  simp [openCalled, h]

/-- The state in which OPEN of the Initiator has written its first SET and waits for UA. -/
def setWritten (s : State) : State :=
  goto .oiWaitUa
    (sent (setFrame s.p) (timerArm { sessionReset (chanHold (openCalled s)) with txbuf := setFrame s.p }))

theorem openStep_setWritten (hr : s.cfg.role = 0) (ho : openAnswer s = .ok)
    (hw : (openCalled s).WriteOk (setFrame s.p)) : openStep s = setWritten s := by
  rw [openStep_initiator hr ho]
  exact writeThen_ok _ _ _ hw

end

/-- Settles O22: the two early ends of OPEN, before the session is reset. -/
theorem openFailsEarlyWithoutASession : Obligations.OpenFailsEarlyWithoutASession := by
  intro s hp
  rw [exec_openCmd_of_closed hp]
  constructor
  · intro hr
    rw [openStep_invalidRole (by rcases hr with hr | hr <;> rw [hr] <;> rfl)]
    rfl
  · intro e os hr h
    obtain ⟨r, hr⟩ : ∃ r, roleOfCode s.cfg.role = some r := by
      rcases hr with hr | hr <;> rw [hr] <;> exact ⟨_, rfl⟩
    rw [openStep_channelError hr (openAnswer_of_listed h), openCalled_of_listed h]
    rfl

/-- Settles O23: on an acquired channel OPEN is the session reset and the role's own start. -/
theorem openStartsByRole : Obligations.OpenStartsByRole := by
  intro s os hp h f
  have ho := openAnswer_of_listed h
  rw [exec_openCmd_of_closed hp]
  constructor
  · intro hr hw
    rw [openStep_setWritten hr ho hw, setWritten, openCalled_of_listed h]
    simp [goto, sent, writeCalled, timerArm, sessionReset, chanHold, setFrame, f, hr]
  · intro hr
    rw [openStep_responder hr ho, openCalled_of_listed h]
    simp [openResponder, goto, sessionReset, chanHold, hr]

/-! ## The start of CLOSE (R136, R139) -/

/-- Settles O27: the counters and the scanner are cleared, and the Initiator's DISC is written. -/
theorem closeStartsByRole : Obligations.CloseStartsByRole := by
  intro s hp f
  constructor
  · intro hr hw
    rw [exec_closeCmd_initiator hp hr]
    exact congrArg Host.Outcome.next (writeThen_ok _ _ _ hw)
  · intro hr
    simp [exec, execCloseCmd, closeResponder, goto, clearCounters, setScan, hp, hr]

/-! ## An awaited frame at its fifth byte (R133, R135, R137, R139, R140) -/

/-- The operation `RX(b)` runs in a phase, on the byte that completes the frame the phase awaits. -/
theorem exec_awaitedByte {s : State} {b : Byte} {i : Instr} {f : Bytes} (hi : rxInstr s.ph b = some i)
    (hc : s.ph.control = true) (hs : s.sc = .reading 4) (hf : s.rxbuf ++ [b] = f) (h : f ∈ s.awaited) :
    exec i s = .next (onMatch f (setScan .matched f s)) := by
  subst hf
  rw [exec_rxInstr hi, rxByte_awaited hc hs h]

/-- Settles O25: in both phases the frame is the one awaited, and the phase's own branch runs on it. -/
theorem awaitedFramesCompleteTheInitiator : Obligations.AwaitedFramesCompleteTheInitiator := by
  intro b s hs
  refine ⟨fun hp hf => ?_, fun hp hf hw => ?_⟩
  all_goals
    rw [exec_awaitedByte (by rw [hp]; rfl) (by rw [hp]; rfl) hs rfl (by simp [State.awaited, hp, hf])]
    simp only [onMatch, setScan_ph, hp]
  case refine_1 => rfl
  case refine_2 =>
    refine congrArg Host.Outcome.next ((writeThen_ok _ _ (timerCancel (setScan .matched _ s)) hw).trans ?_)
    simp only [setScan, timerCancel, chanRelease, goto, complete]
    rfl

/-- Settles O26: likewise in the three phases of the Responder. -/
theorem awaitedFramesMoveTheResponder : Obligations.AwaitedFramesMoveTheResponder := by
  intro b s hs
  refine ⟨fun hp hf hw => ?_, fun hp hf hw => ?_, fun hp hf => ?_⟩
  all_goals
    rw [exec_awaitedByte (by rw [hp]; rfl) (by rw [hp]; rfl) hs rfl (by simp [State.awaited, hp, hf])]
    simp only [onMatch, setScan_ph, hp]
  case refine_3 => rfl
  all_goals exact congrArg Host.Outcome.next (writeThen_ok _ _ _ hw)

/-! ## The expiry (R134, R138, R155, R175) -/

section
variable {s : State}

/-- In a timed phase the shared step is the phase's own retry step. -/
theorem exec_retryStep_of_timed (ht : s.ph.timed = true) : exec .retryStep s = .next (phaseRetry s) :=
  whenEnabled_of_true ht _

/-- The status with which a timed phase gives up (R175, the table). -/
def Phase.giveUp : Phase → Status
  | .txWaitAck => .transferFailed
  | .closed | .idle | .oiWaitUa | .orWaitSet | .rxFrame | .ciWaitDisc | .crWaitDisc | .crWaitUa => .connectionTimeout

/-- The timed phases differ in the status they give up with and in the order of arming and writing (R175). -/
theorem phaseRetry_of_timed (ht : s.ph.timed = true) :
    ∃ resend, (resend = armThenWrite ∨ resend = writeThenArm) ∧ phaseRetry s = retryWith s.ph.giveUp resend s := by
  cases hp : s.ph
  case oiWaitUa | ciWaitDisc => exact ⟨_, .inl rfl, by simp only [phaseRetry, hp]; rfl⟩
  case txWaitAck => exact ⟨_, .inr rfl, by simp only [phaseRetry, hp]; rfl⟩
  all_goals simp [hp, Phase.timed] at ht

/-- Below the budget the frame is written again, and both orders come to the same. -/
theorem phaseRetry_resend (ht : s.ph.timed = true) (hlt : s.retry + 1 < s.maxRetries) (hw : s.WriteOk s.txbuf) :
    phaseRetry s =
      { sent s.txbuf s with retry := s.retry + 1, tarmed := true, sc := .waitDelimiter, rxbuf := [] } := by
  obtain ⟨resend, horder, heq⟩ := phaseRetry_of_timed ht
  rw [heq, retryWith_resend _ _ s hlt]
  rcases horder with rfl | rfl
  · exact armThenWrite_ok { s with tarmed := false, retry := s.retry + 1 } hw
  · exact writeThenArm_ok { s with tarmed := false, retry := s.retry + 1 } hw

/-- At the budget nothing is written. -/
theorem phaseRetry_fatal (ht : s.ph.timed = true) (hle : s.maxRetries ≤ s.retry + 1) :
    phaseRetry s = fatal s.ph.giveUp { s with tarmed := false, retry := s.retry + 1 } := by
  obtain ⟨resend, -, heq⟩ := phaseRetry_of_timed ht
  rw [heq, retryWith_fatal _ _ s hle]

end

/-- Settles O28: the event, the shared step and the phase's own step are the retry step, which resends. -/
theorem expiryBelowTheBudgetResends : Obligations.ExpiryBelowTheBudgetResends := by
  intro s ha hlt hw resent
  have hr (ht : s.ph.timed = true) : phaseRetry s = resent := phaseRetry_resend ht hlt hw
  refine ⟨fun hp => ?_, fun hp => ?_, fun hp => ?_, fun hp => ?_⟩
  · rw [exec_oiWaitUaTimeout_of_armed hp ha, hr (by rw [hp]; rfl)]
  · rw [exec_ciWaitDiscTimeout_of_armed hp ha, hr (by rw [hp]; rfl)]
  · rw [exec_txWaitAckTimeout_of_armed hp ha, hr (by rw [hp]; rfl)]
  · have ht : s.ph.timed = true := by rcases hp with hp | hp | hp <;> rw [hp] <;> rfl
    rw [exec_timeout_of_armed ha ht, exec_retryStep_of_timed ht, hr ht]
    exact ⟨rfl, rfl⟩

/-- Settles O29: likewise, and the retry step gives up with the status of the phase. -/
theorem expiryAtTheBudgetIsFatal : Obligations.ExpiryAtTheBudgetIsFatal := by
  intro s ha hle failed
  have each {i : Instr} {ph : Phase} (hp : s.ph = ph) (ht : ph.timed = true)
      (own : exec i s = .next (phaseRetry s)) : exec i s = .next (failed ph.giveUp) ∧
        exec .timeout s = .next (failed ph.giveUp) ∧ exec .retryStep s = .next (failed ph.giveUp) := by
    subst hp
    rw [own, exec_timeout_of_armed ha ht, exec_retryStep_of_timed ht, phaseRetry_fatal ht hle]
    exact ⟨rfl, rfl, rfl⟩
  exact ⟨fun hp => each hp rfl (exec_oiWaitUaTimeout_of_armed hp ha),
    fun hp => each hp rfl (exec_ciWaitDiscTimeout_of_armed hp ha),
    fun hp => each hp rfl (exec_txWaitAckTimeout_of_armed hp ha)⟩

/-! ## Runs of expiries (R134, R142, R155) -/

/-- A run and one step more. -/
theorem run_snoc {M : Host.Core} {k : Nat} {s t u : M.State} (h : M.run k s = .next t) (hu : M.step t = .next u) :
    M.run (k + 1) s = .next u := by
  induction k generalizing s with
  | zero => cases h; exact run_succ_of_next 0 hu
  | succ k ih =>
    cases hs : M.step s with
    | next s' =>
      rw [run_succ_of_next k hs] at h
      rw [run_succ_of_next (k + 1) hs, ih h]
    | fault | refused => simp [Host.Core.run, hs] at h

/-- The block waits in a timed phase for the first byte of the answer; an expiry leaves it waiting so. -/
structure AwaitsAnswer (s : State) : Prop where
  timed : s.ph.timed = true
  armed : s.tarmed = true
  aligned : s.Aligned

/-- The state after `k` expiries, each counted and answered with the same frame; `ws` are the answers of the channel
still to come. -/
def resends (k : Nat) (ws : List WriteAnswer) (s : State) : State :=
  { s with
    retry := s.retry + k
    writeAnswers := ws
    freeCount := s.freeCount + k
    txCalls := s.txCalls ++ List.replicate k s.txbuf }

section
variable {s : State} {ws : List WriteAnswer}

@[simp] theorem resends_retry (k : Nat) : (resends k ws s).retry = s.retry + k := rfl
@[simp] theorem resends_maxRetries (k : Nat) : (resends k ws s).maxRetries = s.maxRetries := rfl

theorem resends_zero : resends 0 s.writeAnswers s = s := by simp [resends]

theorem resends_resends (j k : Nat) (vs : List WriteAnswer) :
    resends k ws (resends j vs s) = resends (j + k) ws s := by
  simp [resends, Nat.add_assoc]

theorem AwaitsAnswer.after_resends (h : AwaitsAnswer s) (k : Nat) (ws : List WriteAnswer) :
    AwaitsAnswer (resends k ws s) := ⟨h.timed, h.armed, h.aligned⟩

/-- With the scanner where a reset puts it, the retry step changes only what `resends` counts. -/
theorem AwaitsAnswer.phaseRetry_eq (h : AwaitsAnswer s) (hlt : s.retry + 1 < s.maxRetries)
    (hws : s.writeAnswers = .count s.txbuf.length :: ws) : phaseRetry s = resends 1 ws s := by
  obtain ⟨ht, ha, hsc, hbuf⟩ := h
  rw [phaseRetry_resend ht hlt (writeError_count s.txbuf _ ws s hws le_rfl), sent_of_listed hws]
  simp [resends, ha, hsc, hbuf]

/-- A listed expiry runs the retry step and leaves the inputs behind it. -/
theorem AwaitsAnswer.step_timeout (h : AwaitsAnswer s) (l : List Input) :
    step (s.withInbox (.timeout :: l)) = .next (phaseRetry (s.withInbox l)) := by
  rw [step_eq _ .timeout l rfl]
  exact congrArg Host.Outcome.next (if_pos h.armed)

/-- As many expiries as the budget bears, with a channel that takes every frame. -/
theorem AwaitsAnswer.run_timeouts (h : AwaitsAnswer s) {k : Nat} (hlt : s.retry + k < s.maxRetries)
    (hws : s.writeAnswers = List.replicate k (.count s.txbuf.length) ++ ws) (l : List Input) :
    core.run k (s.withInbox (List.replicate k .timeout ++ l)) = .next ((resends k ws s).withInbox l) := by
  induction k generalizing s with
  | zero =>
    obtain rfl : s.writeAnswers = ws := hws
    rw [resends_zero]
    rfl
  | succ k ih =>
    have hnow : AwaitsAnswer (s.withInbox (List.replicate k .timeout ++ l)) := ⟨h.timed, h.armed, h.aligned⟩
    have hstep := h.step_timeout (List.replicate k .timeout ++ l)
    rw [hnow.phaseRetry_eq (show s.retry + 1 < s.maxRetries by omega) hws] at hstep
    have hrest := ih (h.after_resends 1 (List.replicate k (.count s.txbuf.length) ++ ws))
      (show s.retry + 1 + k < s.maxRetries by omega) rfl
    rw [resends_resends, Nat.add_comm 1 k] at hrest
    exact (run_succ_of_next k hstep).trans hrest

/-- The expiry that reaches the budget, taken from the list of inputs. -/
theorem AwaitsAnswer.step_timeout_fatal (h : AwaitsAnswer s) (hle : s.maxRetries ≤ s.retry + 1) (l : List Input) :
    step (s.withInbox (.timeout :: l)) =
      .next ((fatal s.ph.giveUp { s with tarmed := false, retry := s.retry + 1 }).withInbox l) := by
  rw [h.step_timeout l, phaseRetry_fatal (s := s.withInbox l) h.timed hle]
  rfl

end

/-! ## OPEN on a channel that loses SET frames (R142) -/

section
variable {s : State} {os : List OpenAnswer} {ws : List WriteAnswer} {l : List Input}

theorem awaitsAnswer_setWritten (s : State) : AwaitsAnswer (setWritten s) := ⟨rfl, rfl, rfl, rfl⟩

@[simp] theorem setWritten_retry (s : State) : (setWritten s).retry = 0 := rfl
@[simp] theorem setWritten_maxRetries (s : State) : (setWritten s).maxRetries = s.maxRetries := rfl
@[simp] theorem setWritten_done (s : State) : (setWritten s).done = s.done := rfl

/-- After `k` lost SET frames SET has been written once more than that. -/
theorem resends_setWritten_txCalls (k : Nat) (ws : List WriteAnswer) (s : State) :
    (resends k ws (setWritten s)).txCalls = s.txCalls ++ List.replicate (k + 1) (setFrame s.p) := by
  rw [List.replicate_succ, List.append_cons]
  rfl

/-- A listed OPEN of the Initiator whose SET is taken by the channel. -/
theorem step_open_setWritten (hp : s.ph = .closed) (hr : s.cfg.role = 0) (ho : s.openAnswers = .ok :: os)
    (hws : s.writeAnswers = .count 5 :: ws) (hin : s.inbox = .cmd 0 :: l) :
    step s = .next ((setWritten s).withInbox l) := by
  have hopen : openStep (s.withInbox l) = setWritten (s.withInbox l) :=
    openStep_setWritten hr (openAnswer_of_listed ho) (writeError_count _ 5 ws _ hws le_rfl)
  rw [step_eq s _ _ hin]
  exact congrArg Host.Outcome.next ((cmdResult_of_closed (s := s.withInbox l) hp 0).trans hopen)

/-- OPEN and `k` expiries, fewer than the budget, on a channel that takes every SET. -/
theorem run_open_timeouts {k : Nat} (hp : s.ph = .closed) (hr : s.cfg.role = 0) (ho : s.openAnswers = .ok :: os)
    (hlt : k < s.maxRetries) (hws : s.writeAnswers = List.replicate (k + 1) (.count 5) ++ ws)
    (hin : s.inbox = .cmd 0 :: (List.replicate k .timeout ++ l)) :
    core.run (k + 1) s = .next ((resends k ws (setWritten s)).withInbox l) := by
  have hopened := step_open_setWritten hp hr ho hws hin
  have hleft : (setWritten s).writeAnswers = List.replicate k (.count 5) ++ ws := congrArg List.tail hws
  have hlost := (awaitsAnswer_setWritten s).run_timeouts (by simpa using hlt) hleft l
  exact (run_succ_of_next k hopened).trans hlost

/-- UA at an aligned Initiator completes OPEN. -/
theorem step_ua (hp : s.ph = .oiWaitUa) (hs : s.Aligned) (l : List Input) :
    step (s.withInbox (.frame (uaFrame s.p .responder) :: l)) = .next ((complete .ok .none
      (goto .idle (timerCancel (setScan .matched (uaFrame s.p .responder) s)))).withInbox l) := by
  rw [step_eq _ _ l rfl]
  have hc : (s.withInbox l).ph.control = true := by rw [withInbox_ph, hp]; rfl
  have h : uaFrame s.p .responder ∈ (s.withInbox l).awaited := by simp [State.awaited, hp, uaFrame, tag]
  refine congrArg Host.Outcome.next ((rxBytes_awaited (s := s.withInbox l) hc hs h).trans ?_)
  simp only [onMatch, setScan_ph, withInbox_ph, hp]
  rfl

end

theorem exists_replicate_append {α : Type} {k m : Nat} (h : k ≤ m) (a : α) (l : List α) :
    ∃ l', List.replicate m a ++ l = List.replicate k a ++ l' := by
  obtain ⟨j, rfl⟩ := Nat.exists_eq_add_of_le h
  exact ⟨List.replicate j a ++ l, by rw [List.replicate_add, List.append_assoc]⟩

/-- Settles O56: OPEN has written SET once, each expiry writes it again, and then the UA or the last expiry comes. -/
theorem openSurvivesLostSetFrames : Obligations.OpenSurvivesLostSetFrames := by
  intro s k os ws rest hp hr ho hpos hws setI
  constructor
  · intro hk hin
    obtain ⟨vs, hvs⟩ := exists_replicate_append (Nat.succ_le_of_lt hk) (WriteAnswer.count 5) ws
    have hlost := run_open_timeouts hp hr ho hk (hws.trans hvs) hin
    have hua := step_ua (s := resends k vs (setWritten s)) rfl ⟨rfl, rfl⟩ rest
    exact ⟨_, run_snoc hlost hua, rfl, rfl, rfl, congrArg (· + 1) (setWritten_done s), Nat.zero_add k, rfl, rfl,
      resends_setWritten_txCalls k vs s⟩
  · intro hin
    obtain ⟨n, hn⟩ := Nat.exists_eq_add_of_le' hpos
    rw [hn] at hws hin ⊢
    rw [List.replicate_succ', List.append_assoc] at hin
    have hlost := run_open_timeouts hp hr ho (by omega) hws hin
    have hfatal := ((awaitsAnswer_setWritten s).after_resends n ws).step_timeout_fatal (by simp [hn]) rest
    exact ⟨_, run_snoc hlost hfatal, rfl, rfl, rfl, congrArg (· + 1) (setWritten_done s), rfl,
      resends_setWritten_txCalls n ws s⟩

end Sys2Proof.Machine

/-! Proofs of the family `42_arq.md`: how SEND starts and ends, what RECEIVE answers, and how both fare on a channel
that loses or damages acknowledgments. -/

namespace Sys2Proof.Machine

open Sys2Proof

section
variable {s : State}

/-! ## The start of SEND (R150) -/

/-- The frame SEND writes. -/
def dataFrame (s : State) : Bytes := encData s.p (me s) s.ns s.txpay

/-- The state in which SEND has written its frame once and waits for the acknowledgment. -/
def dataWritten (s : State) : State :=
  { sent (dataFrame s) s with
    retry := 0
    rejcnt := 0
    txbuf := dataFrame s
    tarmed := true
    sc := .waitDelimiter
    rxbuf := []
    ph := .txWaitAck }

theorem sendStep_dataWritten (hw : s.WriteOk (dataFrame s)) : sendStep s = dataWritten s := by
  unfold sendStep
  exact writeThen_ok _ _ _ hw

/-- An oversized payload is refused with no state change (decision D8). -/
theorem exec_sendCmd_of_long (hm : s.p.mss < s.txpay.length) : exec .sendCmd s = .next s :=
  congrArg Host.Outcome.next (if_neg fun h => Nat.not_le.2 hm h.2)

end

/-- Settles O30: a payload that fits is written as the data frame, any other is refused. -/
theorem sendWritesOneDataFrame : Obligations.SendWritesOneDataFrame := by
  intro s hp f
  refine ⟨fun hm hw => ?_, exec_sendCmd_of_long⟩
  rw [exec_sendCmd_of_fits hp hm, sendStep_dataWritten hw]
  rfl

section
variable {s : State} {b : Byte}

/-! ## The awaited acknowledgments (R152 to R154) -/

/-- The awaited RR makes SEND complete. -/
theorem onMatch_expectedRr (hp : s.ph = .txWaitAck) :
    onMatch (expectedRr s) (setScan .matched (expectedRr s) s) =
      ackAccepted (setScan .matched (expectedRr s) s) := by
  simp only [onMatch, setScan_ph, hp]
  exact if_pos rfl

theorem awaited_of_txWaitAck (hp : s.ph = .txWaitAck) : s.awaited = [expectedRr s, expectedRej s] := by
  simp only [State.awaited, hp]
  rfl

theorem expectedRr_mem_awaited (hp : s.ph = .txWaitAck) : expectedRr s ∈ s.awaited := by
  simp [awaited_of_txWaitAck hp]

theorem expectedRej_mem_awaited (hp : s.ph = .txWaitAck) : expectedRej s ∈ s.awaited := by
  simp [awaited_of_txWaitAck hp]

/-- The fifth byte of the awaited RR. -/
theorem exec_txWaitAckRxRr_expectedRr (hp : s.ph = .txWaitAck) (hs : s.sc = .reading 4)
    (hb : s.rxbuf ++ [b] = expectedRr s) :
    exec (.txWaitAckRxRr b) s = .next (ackAccepted (setScan .matched (s.rxbuf ++ [b]) s)) := by
  rw [exec_awaitedByte (by rw [hp]; rfl) (by rw [hp]; rfl) hs hb (expectedRr_mem_awaited hp),
    onMatch_expectedRr hp, hb]

/-- The fifth byte of the awaited REJ. -/
theorem exec_txWaitAckRxRr_expectedRej (hp : s.ph = .txWaitAck) (hs : s.sc = .reading 4)
    (hb : s.rxbuf ++ [b] = expectedRej s) :
    exec (.txWaitAckRxRr b) s = .next (rejMatched (setScan .matched (s.rxbuf ++ [b]) s)) := by
  rw [exec_awaitedByte (by rw [hp]; rfl) (by rw [hp]; rfl) hs hb (expectedRej_mem_awaited hp),
    onMatch_expectedRej hp, hb]

theorem exec_txWaitAckRxRej (hp : s.ph = .txWaitAck) : exec .txWaitAckRxRej s = .next (rejMatched s) :=
  whenEnabled_of_true (by simp [hp]) _

end

/-- Settles O31: the frame named is the awaited RR, and its branch completes SEND. -/
theorem awaitedRrCompletesSend : Obligations.AwaitedRrCompletesSend := by
  intro b s hp hs hb
  rw [← cRr_toggle] at hb
  exact exec_txWaitAckRxRr_expectedRr hp hs hb

/-- Settles O32: the branch of the awaited REJ resends below the budget and fails at it, whether it runs alone or behind
the scanner, whose match a resend clears and a failure leaves. -/
theorem awaitedRejResendsAtOnce : Obligations.AwaitedRejResendsAtOnce := by
  intro b s hp
  refine ⟨fun hlt hw => ⟨?_, fun hs hb => ?_⟩, fun hle => ⟨?_, fun hs hb => ?_⟩⟩
  · rw [exec_txWaitAckRxRej hp, rejMatched_ok hlt hw]
    rfl
  · rw [exec_txWaitAckRxRr_expectedRej hp hs hb, rejMatched_ok (s := setScan .matched (s.rxbuf ++ [b]) s) hlt hw]
    rfl
  · rw [exec_txWaitAckRxRej hp, rejMatched_fatal s hle]
    rfl
  · rw [exec_txWaitAckRxRr_expectedRej hp hs hb, rejMatched_fatal (setScan .matched (s.rxbuf ++ [b]) s) hle]
    rfl

section
variable {s : State}

/-! ## The answers of RECEIVE (R157 to R160) -/

/-- The RR that acknowledges a good frame of the peer. -/
def replyRr (r : SeqBit) (s : State) : Bytes := encCtrl (me s) (cRr s.p r)

theorem rxFrameC2_ok (hw : s.WriteOk (encCtrl (me s) (cRej s.p s.nr))) :
    rxFrameC2 s =
      complete .frameCorruptChecksum2 .none (goto .idle (sent (encCtrl (me s) (cRej s.p s.nr)) s)) :=
  writeThen_ok _ _ s hw

theorem rxFrameAccept_ok (hw : s.WriteOk (replyRr s.nr.toggle s)) (pl : Bytes) :
    rxFrameAccept pl s = complete .ok (.packet pl) (goto .idle (toggleNr (sent (replyRr s.nr.toggle s) s))) :=
  writeThen_ok _ _ s hw

theorem rxFrameDup_ok (hw : s.WriteOk (replyRr s.nr s)) :
    rxFrameDup s = complete .dup .none (goto .idle (sent (replyRr s.nr s) s)) :=
  writeThen_ok _ _ s hw

/-- A step of `RX_FRAME` is taken there. -/
theorem whenEnabled_rxFrame (hp : s.ph = .rxFrame) (t : State) : whenEnabled (s.ph == .rxFrame) t = .next t :=
  whenEnabled_of_true (by simp [hp]) t

end

/-- Settles O33: the REJ is written before the completion, and a checksum1 mismatch writes nothing. -/
theorem damagedFramesCompleteWithFrameCorrupt : Obligations.DamagedFramesCompleteWithFrameCorrupt :=
  fun s hp => ⟨fun hw => (whenEnabled_rxFrame hp _).trans (congrArg Host.Outcome.next (rxFrameC2_ok (s := s) hw)),
    whenEnabled_rxFrame hp (rxFrameC1 s)⟩

/-- Settles O34: either acknowledgment is written before the completion; a new frame's is the RR of the next bit. -/
theorem goodFramesAreAcknowledged : Obligations.GoodFramesAreAcknowledged := by
  intro pl s hp next again
  have hnext : next = replyRr s.nr.toggle s := by rw [replyRr, cRr_toggle]; rfl
  rw [hnext]
  exact ⟨fun hw => (whenEnabled_rxFrame hp _).trans (congrArg Host.Outcome.next (rxFrameAccept_ok hw pl)),
    fun hw => (whenEnabled_rxFrame hp _).trans (congrArg Host.Outcome.next (rxFrameDup_ok hw))⟩

/-! ## SEND on a channel that loses or corrupts acknowledgments (R155, R162) -/

/-- A run that goes on. -/
theorem run_add {M : Host.Core} {m : Nat} {s t : M.State} (h : M.run m s = .next t) (n : Nat) :
    M.run (m + n) s = M.run n t := by
  induction m generalizing s with
  | zero => cases h; rw [Nat.zero_add]
  | succ m ih =>
    cases hs : M.step s with
    | next s' =>
      rw [run_succ_of_next m hs] at h
      rw [Nat.succ_add, run_succ_of_next (m + n) hs, ih h]
    | fault | refused => simp [Host.Core.run, hs] at h

/-- What is left of an acknowledgment on its way: nothing, or a corrupted frame. -/
def ackRemains (a : Option Bytes) : List Input := (a.map Input.frame).toList

/-- A failed acknowledgment as SEND sees it: what is left of it, then the expiry. -/
def failedAck (a : Option Bytes) : List Input := ackRemains a ++ [.timeout]

/-- An acknowledgment is lost, or it arrives as five bytes that begin with `FLAG` and are neither awaited frame. -/
def AckFails (s : State) (a : Option Bytes) : Prop :=
  ∀ g, a = some g → g.length = 5 ∧ g.head? = some FLAG ∧ g ≠ expectedRr s ∧ g ≠ expectedRej s

/-- SEND waits for the first byte of the acknowledgment. -/
structure AwaitsAck (s : State) : Prop extends AwaitsAnswer s where
  phase : s.ph = .txWaitAck

section
variable (k : Nat) (ws : List WriteAnswer) (s : State) (a : Option Bytes)

@[simp] theorem resends_rejcnt : (resends k ws s).rejcnt = s.rejcnt := rfl
@[simp] theorem resends_ns : (resends k ws s).ns = s.ns := rfl
@[simp] theorem resends_txbuf : (resends k ws s).txbuf = s.txbuf := rfl
@[simp] theorem resends_done : (resends k ws s).done = s.done := rfl
@[simp] theorem expectedRr_resends : expectedRr (resends k ws s) = expectedRr s := rfl
@[simp] theorem expectedRej_resends : expectedRej (resends k ws s) = expectedRej s := rfl

@[simp] theorem ackFails_resends : AckFails (resends k ws s) a ↔ AckFails s a := by
  simp [AckFails]

@[simp] theorem dataWritten_maxRetries : (dataWritten s).maxRetries = s.maxRetries := rfl
@[simp] theorem dataWritten_retry : (dataWritten s).retry = 0 := rfl
@[simp] theorem dataWritten_rejcnt : (dataWritten s).rejcnt = 0 := rfl
@[simp] theorem dataWritten_ns : (dataWritten s).ns = s.ns := rfl
@[simp] theorem dataWritten_txbuf : (dataWritten s).txbuf = dataFrame s := rfl
@[simp] theorem dataWritten_done : (dataWritten s).done = s.done := rfl
@[simp] theorem expectedRr_dataWritten : expectedRr (dataWritten s) = expectedRr s := rfl
@[simp] theorem expectedRej_dataWritten : expectedRej (dataWritten s) = expectedRej s := rfl

@[simp] theorem ackFails_dataWritten : AckFails (dataWritten s) a ↔ AckFails s a := by
  simp [AckFails]

end

section
variable {s : State} {a : Option Bytes} {acks : List (Option Bytes)} {ws : List WriteAnswer}

/-- Five bytes that begin with `FLAG` and are no awaited frame leave no trace (R112). -/
theorem rxBytes_five_dropped {g : Bytes} (hc : s.ph.control = true) (hs : s.Aligned) (hl : g.length = 5)
    (hhead : g.head? = some FLAG) (h : g ∉ s.awaited) : rxBytes g s = s := by
  obtain ⟨t, rfl⟩ := List.head?_eq_some_iff.1 hhead
  obtain ⟨x, y, z, b, rfl⟩ := List.length_eq_four.1 (by simpa using hl)
  obtain ⟨hno, hafter⟩ := cscan_noMatch b s.awaited (setScan (.reading 4) [FLAG, x, y, z] s) rfl h
  have hlast : rxByte b (setScan (.reading 4) [FLAG, x, y, z] s) = s := by
    rw [rxByte_noMatch b (setScan (.reading 4) [FLAG, x, y, z] s) hc hno, awaited_setScan, hafter]
    exact setScan_aligned _ _ s hs
  rw [show [FLAG, x, y, z, b] = [FLAG, x, y, z] ++ [b] from rfl, rxBytes_append, rxBytes_four x y z s hc hs]
  exact hlast

theorem ignoresInbox_rxBytes (bs : Bytes) : IgnoresInbox (rxBytes bs) := fun s l => by
  induction bs generalizing s with
  | nil => rfl
  | cons b bs ih => rw [rxBytes_cons, ignoresInbox_rxByte b s l, ih (rxByte b s), rxBytes_cons]

/-- A step on a listed frame receives its bytes and leaves the inputs behind it. -/
theorem step_frame (f : Bytes) (s : State) (l : List Input) :
    step (s.withInbox (.frame f :: l)) = .next ((rxBytes f s).withInbox l) := by
  rw [← ignoresInbox_rxBytes f s l]
  exact step_eq _ (.frame f) l rfl

/-- What is left of a failed acknowledgment changes nothing. -/
theorem AwaitsAck.run_ackRemains (h : AwaitsAck s) (ha : AckFails s a) (l : List Input) :
    core.run (ackRemains a).length (s.withInbox (ackRemains a ++ l)) = .next (s.withInbox l) := by
  cases a with
  | none => rfl
  | some g =>
    obtain ⟨hl, hhead, hrr, hrej⟩ := ha g rfl
    have hnot : g ∉ s.awaited := by simp [awaited_of_txWaitAck h.phase, hrr, hrej]
    have hstep := step_frame g s l
    rw [rxBytes_five_dropped (by rw [h.phase]; rfl) h.aligned hl hhead hnot] at hstep
    exact run_succ_of_next 0 hstep

/-- A failed acknowledgment, below the budget, makes SEND write its frame again. -/
theorem AwaitsAck.run_failedAck (h : AwaitsAck s) (ha : AckFails s a) (hlt : s.retry + 1 < s.maxRetries)
    (hws : s.writeAnswers = .count s.txbuf.length :: ws) (l : List Input) :
    core.run (failedAck a).length (s.withInbox (failedAck a ++ l)) = .next ((resends 1 ws s).withInbox l) := by
  rw [failedAck, List.length_append, List.append_assoc]
  exact (run_add (h.run_ackRemains ha _) 1).trans (h.run_timeouts (k := 1) hlt hws l)

/-- At the budget it ends the session instead. -/
theorem AwaitsAck.run_failedAck_fatal (h : AwaitsAck s) (ha : AckFails s a) (hle : s.maxRetries ≤ s.retry + 1)
    (l : List Input) : core.run (failedAck a).length (s.withInbox (failedAck a ++ l)) =
      .next ((fatal .transferFailed { s with tarmed := false, retry := s.retry + 1 }).withInbox l) := by
  have hfatal := h.step_timeout_fatal hle l
  rw [h.phase] at hfatal
  rw [failedAck, List.length_append, List.append_assoc]
  exact run_snoc (h.run_ackRemains ha (.timeout :: l)) hfatal

theorem AwaitsAck.after_resends (h : AwaitsAck s) (k : Nat) (ws : List WriteAnswer) : AwaitsAck (resends k ws s) :=
  ⟨h.toAwaitsAnswer.after_resends k ws, h.phase⟩

/-- As many failed acknowledgments as the budget bears, with a channel that takes every frame. -/
theorem AwaitsAck.run_failedAcks (h : AwaitsAck s) (hacks : ∀ a ∈ acks, AckFails s a)
    (hlt : s.retry + acks.length < s.maxRetries)
    (hws : s.writeAnswers = List.replicate acks.length (.count s.txbuf.length) ++ ws) (l : List Input) :
    core.run (acks.flatMap failedAck).length (s.withInbox (acks.flatMap failedAck ++ l)) =
      .next ((resends acks.length ws s).withInbox l) := by
  induction acks generalizing s with
  | nil =>
    obtain rfl : s.writeAnswers = ws := hws
    exact congrArg (fun t => Host.Outcome.next (t.withInbox l)) resends_zero.symm
  | cons a acks ih =>
    rw [List.length_cons] at hlt
    obtain ⟨ha, hacks⟩ := List.forall_mem_cons.1 hacks
    have hfirst := h.run_failedAck ha (by omega) hws (acks.flatMap failedAck ++ l)
    have hrest := ih (h.after_resends 1 (List.replicate acks.length (.count s.txbuf.length) ++ ws))
      (by simpa using hacks) (show s.retry + 1 + acks.length < s.maxRetries by omega) rfl
    rw [resends_resends, Nat.add_comm 1] at hrest
    rw [List.flatMap_cons, List.length_append, List.append_assoc]
    exact (run_add hfirst _).trans hrest

/-- The awaited RR, taken from the list of inputs. -/
theorem AwaitsAck.step_expectedRr (h : AwaitsAck s) (l : List Input) :
    step (s.withInbox (.frame (expectedRr s) :: l)) =
      .next ((ackAccepted (setScan .matched (expectedRr s) s)).withInbox l) := by
  have hmatch := rxBytes_awaited (by rw [h.phase]; rfl) h.aligned (expectedRr_mem_awaited h.phase)
  rw [step_frame, ← onMatch_expectedRr h.phase]
  exact congrArg (fun t => Host.Outcome.next (t.withInbox l)) hmatch

theorem awaitsAck_dataWritten (s : State) : AwaitsAck (dataWritten s) := ⟨⟨rfl, rfl, rfl, rfl⟩, rfl⟩

/-- After `k` failed acknowledgments the frame has been written once more than that. -/
theorem resends_dataWritten_txCalls (k : Nat) (ws : List WriteAnswer) (s : State) :
    (resends k ws (dataWritten s)).txCalls = s.txCalls ++ List.replicate (k + 1) (dataFrame s) := by
  rw [List.replicate_succ, List.append_cons]
  rfl

/-- A listed SEND whose frame is taken by the channel. -/
theorem step_send_dataWritten {l : List Input} (hp : s.ph = .idle) (hm : s.txpay.length ≤ s.p.mss)
    (hws : s.writeAnswers = .count (dataFrame s).length :: ws) (hin : s.inbox = .cmd 1 :: l) :
    step s = .next ((dataWritten s).withInbox l) := by
  have hw : (s.withInbox l).WriteOk (dataFrame s) := writeError_count _ _ ws _ hws le_rfl
  have hexec := exec_sendCmd_of_fits (s := s.withInbox l) hp hm
  rw [sendStep_dataWritten (s := s.withInbox l) hw] at hexec
  exact (step_of_inputInstr hin rfl).trans hexec

/-- SEND and fewer failed acknowledgments than the budget, on a channel that takes every frame. -/
theorem run_send_failedAcks {l : List Input} (hp : s.ph = .idle) (hm : s.txpay.length ≤ s.p.mss)
    (hacks : ∀ a ∈ acks, AckFails s a) (hlt : acks.length < s.maxRetries)
    (hws : s.writeAnswers = List.replicate (acks.length + 1) (.count (dataFrame s).length) ++ ws)
    (hin : s.inbox = .cmd 1 :: (acks.flatMap failedAck ++ l)) :
    core.run ((acks.flatMap failedAck).length + 1) s =
      .next ((resends acks.length ws (dataWritten s)).withInbox l) := by
  have hsent := step_send_dataWritten hp hm hws hin
  have hleft : (dataWritten s).writeAnswers = List.replicate acks.length (.count (dataFrame s).length) ++ ws :=
    congrArg List.tail hws
  exact (run_succ_of_next _ hsent).trans
    ((awaitsAck_dataWritten s).run_failedAcks (by simpa using hacks) (by simpa using hlt) hleft l)

end

/-- Settles O57: SEND has written its frame once, each failed acknowledgment makes it write the frame again, and then
the awaited RR or the last expiry comes. -/
theorem sendSurvivesLostAcknowledgments : Obligations.SendSurvivesLostAcknowledgments := by
  intro s acks ws rest f rr rej failures hacks hp hm hpos hws
  have hf : f = dataFrame s := rfl
  have hacks : ∀ a ∈ acks, AckFails s a := hacks
  constructor
  · intro hk hin
    obtain ⟨vs, hvs⟩ := exists_replicate_append (Nat.succ_le_of_lt hk) (WriteAnswer.count f.length) ws
    have hlost := run_send_failedAcks hp hm hacks hk (hws.trans hvs) hin
    have hrr := ((awaitsAck_dataWritten s).after_resends acks.length vs).step_expectedRr rest
    rw [expectedRr_resends, expectedRr_dataWritten] at hrr
    refine ⟨_, run_snoc hlost hrr, ?_⟩
    simp [State.withInbox, ackAccepted, resends_dataWritten_txCalls, hf]
  · intro hk hin
    obtain rfl | ⟨init, last, rfl⟩ := acks.eq_nil_or_concat'
    · exact absurd hk (Nat.ne_of_lt hpos)
    obtain ⟨hinit, hlast⟩ := List.forall_mem_append.1 hacks
    have hk : s.maxRetries = init.length + 1 := by simpa using hk.symm
    have hfailures : failures = init.flatMap failedAck ++ failedAck last := by
      simp only [failures, List.flatMap_append, List.flatMap_singleton]
      rfl
    have hlength : failures.length + 1 = (init.flatMap failedAck).length + 1 + (failedAck last).length := by
      rw [hfailures, List.length_append, Nat.add_right_comm]
    rw [hfailures, List.append_assoc] at hin
    rw [hk] at hws
    have hlost := run_send_failedAcks hp hm hinit (by omega) hws hin
    have hfatal := ((awaitsAck_dataWritten s).after_resends init.length ws).run_failedAck_fatal (a := last)
      (by simpa using hlast) (by simp [hk]) rest
    rw [hlength, hk]
    refine ⟨_, (run_add hlost _).trans hfatal, ?_⟩
    simp [State.withInbox, fatal_eq, resends_dataWritten_txCalls, hf]

section
variable {s : State} {ws : List WriteAnswer} {l : List Input}

/-! ## A replayed data frame (R159, R162) -/

/-- RECEIVE waits for a data frame. -/
def listening (s : State) : State := goto .rxFrame (scannerReset s)

/-- A data frame of the peer. -/
def peerFrame (sb : SeqBit) (pl : Bytes) (s : State) : Bytes := encData s.p (pa s) sb pl

@[simp] theorem listening_nr (s : State) : (listening s).nr = s.nr := rfl
@[simp] theorem replyRr_listening (r : SeqBit) (s : State) : replyRr r (listening s) = replyRr r s := rfl

/-- A listed RECEIVE. -/
theorem step_receive (hp : s.ph = .idle) (hin : s.inbox = .cmd 2 :: l) :
    step s = .next ((listening s).withInbox l) :=
  (step_of_inputInstr hin rfl).trans (congrArg Host.Outcome.next (if_pos (c := (s.withInbox l).ph = .idle) hp))

/-- RECEIVE and a data frame of the peer that fits the receive buffer. -/
theorem run_receive_peerFrame {sb : SeqBit} {pl : Bytes} (hp : s.ph = .idle)
    (hf : s.p.runFits (peerFrame sb pl s).length) (hin : s.inbox = .cmd 2 :: .frame (peerFrame sb pl s) :: l) :
    core.run 2 s = .next
      ((if sb = s.nr then rxFrameAccept pl (listening s) else rxFrameDup (listening s)).withInbox l) := by
  have hclass : rxBytes (peerFrame sb pl s) (listening s) = _ :=
    (rxBytes_encData (s := listening s) rfl ⟨rfl, rfl⟩ s.role.peer sb pl hf).trans (classify_peer (listening s) sb pl)
  have hframe := step_frame (peerFrame sb pl s) (listening s) l
  rw [hclass] at hframe
  exact run_snoc (run_succ_of_next 0 (step_receive hp hin)) hframe

/-- What RECEIVE leaves when it has acknowledged a new frame; `l` are the inputs behind the frame. -/
def delivered (pl : Bytes) (l : List Input) (s : State) : State :=
  { sent (replyRr s.nr.toggle s) s with
    inbox := l
    sc := .waitDelimiter
    rxbuf := []
    nr := s.nr.toggle
    rxpkt := pl
    resultLen := pl.length
    ph := .idle
    status := .ok
    done := s.done + 1 }

/-- What RECEIVE leaves when it has acknowledged a duplicate. -/
def acknowledgedAgain (l : List Input) (s : State) : State :=
  { sent (replyRr s.nr s) s with
    inbox := l
    sc := .waitDelimiter
    rxbuf := []
    ph := .idle
    status := .dup
    done := s.done + 1 }

theorem run_receive_delivered {pl : Bytes} (hp : s.ph = .idle) (hf : s.p.runFits (peerFrame s.nr pl s).length)
    (hws : s.writeAnswers = .count 5 :: ws) (hin : s.inbox = .cmd 2 :: .frame (peerFrame s.nr pl s) :: l) :
    core.run 2 s = .next (delivered pl l s) := by
  have hw : (listening s).WriteOk (replyRr s.nr.toggle s) := writeError_count _ 5 ws _ hws le_rfl
  rw [run_receive_peerFrame hp hf hin, if_pos rfl, rxFrameAccept_ok (s := listening s) hw pl,
    listening_nr, replyRr_listening]
  simp only [delivered, listening, complete, goto, toggleNr, sent, writeCalled, scannerReset, setScan, State.withInbox]

theorem run_receive_acknowledgedAgain {sb : SeqBit} {pl : Bytes} (hp : s.ph = .idle) (hsb : sb ≠ s.nr)
    (hf : s.p.runFits (peerFrame sb pl s).length) (hws : s.writeAnswers = .count 5 :: ws)
    (hin : s.inbox = .cmd 2 :: .frame (peerFrame sb pl s) :: l) :
    core.run 2 s = .next (acknowledgedAgain l s) := by
  have hw : (listening s).WriteOk (replyRr s.nr s) := writeError_count _ 5 ws _ hws le_rfl
  rw [run_receive_peerFrame hp hf hin, if_neg hsb, rxFrameDup_ok (s := listening s) hw, listening_nr, replyRr_listening]
  simp only [acknowledgedAgain, listening, complete, goto, sent, writeCalled, scannerReset, setScan, State.withInbox]

end

section
variable (pl : Bytes) (l : List Input) (s : State)

@[simp] theorem delivered_ph : (delivered pl l s).ph = .idle := rfl
@[simp] theorem delivered_p : (delivered pl l s).p = s.p := rfl
@[simp] theorem delivered_role : (delivered pl l s).role = s.role := rfl
@[simp] theorem delivered_nr : (delivered pl l s).nr = !s.nr := rfl
@[simp] theorem delivered_status : (delivered pl l s).status = .ok := rfl
@[simp] theorem delivered_done : (delivered pl l s).done = s.done + 1 := rfl
@[simp] theorem delivered_rxpkt : (delivered pl l s).rxpkt = pl := rfl
@[simp] theorem delivered_resultLen : (delivered pl l s).resultLen = pl.length := rfl
@[simp] theorem delivered_inbox : (delivered pl l s).inbox = l := rfl
@[simp] theorem delivered_writeAnswers : (delivered pl l s).writeAnswers = s.writeAnswers.tail := rfl
@[simp] theorem delivered_txCalls : (delivered pl l s).txCalls = s.txCalls ++ [replyRr (!s.nr) s] := rfl

@[simp] theorem peerFrame_delivered (sb : SeqBit) (q : Bytes) :
    peerFrame sb q (delivered pl l s) = peerFrame sb q s := by simp [peerFrame, pa]

@[simp] theorem replyRr_delivered (r : SeqBit) : replyRr r (delivered pl l s) = replyRr r s := by simp [replyRr, me]

@[simp] theorem acknowledgedAgain_ph : (acknowledgedAgain l s).ph = .idle := rfl
@[simp] theorem acknowledgedAgain_nr : (acknowledgedAgain l s).nr = s.nr := rfl
@[simp] theorem acknowledgedAgain_status : (acknowledgedAgain l s).status = .dup := rfl
@[simp] theorem acknowledgedAgain_done : (acknowledgedAgain l s).done = s.done + 1 := rfl
@[simp] theorem acknowledgedAgain_rxpkt : (acknowledgedAgain l s).rxpkt = s.rxpkt := rfl
@[simp] theorem acknowledgedAgain_resultLen : (acknowledgedAgain l s).resultLen = s.resultLen := rfl
@[simp] theorem acknowledgedAgain_inbox : (acknowledgedAgain l s).inbox = l := rfl
@[simp] theorem acknowledgedAgain_txCalls : (acknowledgedAgain l s).txCalls = s.txCalls ++ [replyRr s.nr s] := rfl

end

/-- Settles O58: the first RECEIVE delivers and advances `NR`, so the second finds the frame's bit to be no longer the
expected one, and its RR is the RR of the first. -/
theorem aReplayedFrameIsDeliveredOnce : Obligations.AReplayedFrameIsDeliveredOnce := by
  intro s pl ws rest f rr hp hf hws hin
  have hrr : rr = replyRr (!s.nr) s := rfl
  have hfirst : core.run 2 s = .next (delivered pl (.cmd 2 :: .frame (peerFrame s.nr pl s) :: rest) s) :=
    run_receive_delivered hp hf hws hin
  generalize hu : delivered pl (.cmd 2 :: .frame (peerFrame s.nr pl s) :: rest) s = u at hfirst
  have hsecond : core.run 2 u = .next (acknowledgedAgain rest u) :=
    run_receive_acknowledgedAgain (sb := s.nr) (pl := pl) (ws := ws) (by simp [← hu]) (by simp [← hu])
      (by rw [← hu, delivered_p, peerFrame_delivered]; exact hf) (by simp [← hu, hws]) (by simp [← hu])
  refine ⟨⟨u, hfirst, ?_⟩, acknowledgedAgain rest u, (run_add hfirst 2).trans hsecond, ?_⟩
  all_goals simp [← hu, hrr]

end Sys2Proof.Machine

/-! Proofs of the family `60_exceptions.md`: what completion and the fatal path write, and how often a step completes. -/

namespace Sys2Proof.Machine

open Sys2Proof

/-! ## Completion and the fatal path (R181, R189) -/

theorem exec_complete (st : Status) (res : CmdResult) (s : State) :
    exec (.complete st res) s = .next (complete st res s) := rfl

theorem exec_fatal (st : Status) (s : State) : exec (.fatal st) s = .next (fatal st s) := rfl

/-- Settles O17: one completion for each kind of result, and the five elements of the fatal path. -/
theorem completionAndFatalPathWriteTheStatus : Obligations.CompletionAndFatalPathWriteTheStatus := by
  intro st n p s
  refine ⟨exec_complete st .none s, exec_complete st (.bytesWritten n) s, exec_complete st (.packet p) s, ?_⟩
  rw [exec_fatal, fatal_eq]

/-! ## At most one completion a step (R180, R181) -/

/-- What a step does to the count of completions and to the phase (R181). -/
def DoneRule (s t : State) : Prop :=
  (t.done = s.done ∨ t.done = s.done + 1) ∧
  (t.done = s.done + 1 → t.ph = .idle ∨ t.ph = .closed) ∧
  (s.ph.waiting = true → t.done = s.done → t.ph.waiting = true)

section
variable {e : Input} {s t u : State}

theorem DoneRule.of_completed (hd : t.done = s.done + 1) (hp : t.ph = .idle ∨ t.ph = .closed) : DoneRule s t :=
  ⟨.inr hd, fun _ => hp, fun _ h => absurd (h.symm.trans hd) s.done.lt_succ_self.ne⟩

theorem DoneRule.of_running (hd : t.done = s.done) (hp : s.ph.waiting = true → t.ph.waiting = true) : DoneRule s t :=
  ⟨.inl hd, fun h => absurd (hd.symm.trans h) s.done.lt_succ_self.ne, fun hw _ => hp hw⟩

/-- A block in which no command runs has none to leave waiting (R180). -/
theorem DoneRule.of_notWaiting (hs : s.ph = .closed ∨ s.ph = .idle) (hd : t.done = s.done) : DoneRule s t :=
  .of_running hd fun hw => by rcases hs with hs | hs <;> simp [waiting_iff, hs] at hw

theorem EventOutcome.doneRule (h : EventOutcome s t) : DoneRule s t := by
  have once {u : State} (h : u.registers = s.registers) : u.done + 1 = s.done + 1 :=
    congrArg (· + 1) (done_of_registers h)
  cases h with
  | waits h hp =>
    refine .of_running (done_of_registers h) fun hw => ?_
    rcases hp with hp | ⟨-, hp⟩
    · rwa [hp]
    · rw [hp]; rfl
  | ended u st h hp eq => subst eq; exact .of_completed (once h) (hp.symm.imp_left And.left)
  | acked u n _ h eq => subst eq; exact .of_completed (once (u := u) h) (.inl rfl)
  | delivered u pl _ h eq => subst eq; exact .of_completed (once (u := u) h) (.inl rfl)

/-- A `ChanWrite` of a command that begins: the command runs on, or the session ends (R57). -/
theorem DoneRule.of_writeThen {bs : Bytes} {k : State → State} (hs : s.ph = .closed ∨ s.ph = .idle)
    (hu : u.done = s.done) (hk : ∀ v, (k v).done = v.done) : DoneRule s (writeThen bs k u) := by
  obtain ⟨-, h⟩ | ⟨e, -, h⟩ := writeThen_cases bs k u
  · rw [h]; exact .of_notWaiting hs ((hk _).trans hu)
  · rw [h]; exact .of_completed (congrArg (· + 1) hu) (.inr rfl)

/-- A session starts with OPEN running, or the first write of the Initiator fails (R132, R135). -/
theorem DoneRule.of_openSession (hs : s.ph = .closed) (hu : u.done = s.done) : DoneRule s (openSession u) := by
  simp only [openSession]
  split
  · exact .of_writeThen (.inl hs) hu fun _ => rfl
  · exact .of_notWaiting (.inl hs) hu

/-- OPEN ends early in `CLOSED`, or starts a session (R131). -/
theorem DoneRule.of_openStep (hs : s.ph = .closed) : DoneRule s (openStep s) := by
  unfold openStep
  split
  · exact .of_completed rfl (.inr hs)
  · split
    · exact .of_completed rfl (.inr hs)
    · exact .of_openSession hs rfl

theorem DoneRule.of_inputResult (he : e ≠ .hwReset) (s : State) : DoneRule s (inputResult e s) := by
  generalize ht : inputResult e s = t
  have h : InputOutcome e s t := ht ▸ .of_inputResult e s
  cases h with
  | event h => exact h.doneRule
  | started hp h => exact .of_notWaiting (.inr hp) (done_of_registers h)
  | opened hp hcmd =>
    have hopen : inputResult (.cmd 0) s = openStep s := if_pos hp
    rw [← ht, hcmd, hopen]
    exact .of_openStep hp
  | configured hp cfg eq => rw [eq]; exact .of_notWaiting (.inl hp) rfl
  | reset hreset => exact absurd hreset he

end

/-- Settles O55: of the things an input can do, those that complete a command do it once and in `IDLE` or `CLOSED`. -/
theorem eachCommandCompletesOnceOrNever : Obligations.EachCommandCompletesOnceOrNever := by
  intro s t e rest hin hstep he
  rw [step_eq s e rest hin] at hstep
  cases hstep
  exact DoneRule.of_inputResult he { s with inbox := rest }

end Sys2Proof.Machine

/-! Proofs of the family `70_reset_and_hazards.md`: what a stray delimiter does to a control-scanner phase. -/

namespace Sys2Proof.Machine

open Sys2Proof

/-! ## A stray delimiter (R220 (a), decision D33) -/

/-- Every operation of format CTRL is a control frame (R72). -/
theorem encode_of_ctrl (p : ParamSet) {i : Instr} (hi : i.format = .ctrl) :
    ∃ a c, encode p i = some (.frame (encCtrl a c)) := by
  cases i
  case set | ua | disc | rr0 | rr1 | rej0 | rej1 => exact ⟨_, _, rfl⟩
  all_goals cases hi

section
variable {s : State}

/-- An awaited frame bears the address of a role (R80). -/
theorem mem_awaited_address {t : Bytes} (h : t ∈ s.awaited) : ∃ r c, t = encCtrl (tag s.p r) c := by
  unfold State.awaited at h
  cases hp : s.ph <;> simp only [hp, List.mem_cons, List.not_mem_nil, or_false] at h
  case oiWaitUa | ciWaitDisc => exact ⟨.responder, _, h⟩
  case orWaitSet | crWaitDisc | crWaitUa => exact ⟨.initiator, _, h⟩
  case txWaitAck => rcases h with rfl | rfl <;> exact ⟨s.role.peer, _, rfl⟩

/-- No address is `FLAG` (R9 (c)), so no awaited frame begins with two of them. -/
theorem twoFlags_not_mem_awaited (bs : Bytes) : FLAG :: FLAG :: bs ∉ s.awaited := fun h => by
  obtain ⟨r, c, hf⟩ := mem_awaited_address h
  have haddr : FLAG = tag s.p r := (List.cons.inj (List.cons.inj hf).2).1
  exact address_ne_flag _ s.params.2 _ (tag_mem_addresses s.p r) haddr.symm

/-- A delimiter starts a scan (R112). -/
theorem rxByte_flag (hc : s.ph.control = true) (hs : s.sc = .waitDelimiter) :
    rxByte FLAG s = setScan (.reading 1) [FLAG] s := by
  obtain ⟨hno, hafter⟩ := cscan_flag s.awaited s hs
  rw [rxByte_noMatch FLAG s hc hno, hafter]

/-- Behind a stray delimiter a control frame's first four bytes complete a five-byte text that nobody awaits; its own
closing delimiter is the next stray one. -/
theorem rxBytes_ctrl_slipped (hc : s.ph.control = true) (hs : s.Aligned) (a c : Byte) :
    rxBytes (encCtrl a c) (rxByte FLAG s) = rxByte FLAG s :=
  calc rxBytes (encCtrl a c) (rxByte FLAG s)
      = rxByte FLAG (rxBytes [FLAG, FLAG, a, c, bcc1 a c] s) := rfl
    _ = rxByte FLAG s := by rw [rxBytes_five_dropped hc hs rfl rfl (twoFlags_not_mem_awaited _)]

end

/-- Settles O40: a slipped state is an aligned one that has received a delimiter, whatever its scanner held before. -/
theorem aStrayFlagLosesEveryLaterFrame : Obligations.AStrayFlagLosesEveryLaterFrame := by
  intro s hc slipped
  refine ⟨fun rest hs => ?_, fun i hi => ?_⟩
  · calc step { s with inbox := .rx 0x7E :: rest }
        = .next ((rxByte FLAG s).withInbox rest) := step_rx FLAG s rest
      _ = .next { slipped with inbox := rest } := by rw [rxByte_flag hc hs.1]; rfl
  · have hslip : rxByte FLAG (scannerReset s) = slipped := rxByte_flag (s := scannerReset s) hc rfl
    obtain ⟨a, c, henc⟩ := encode_of_ctrl slipped.p hi
    rw [exec_wire i _ slipped henc, ← hslip, rxBytes_ctrl_slipped (s := scannerReset s) hc ⟨rfl, rfl⟩ a c]

end Sys2Proof.Machine
